-- ==== Sys2Proof/Word.lean ====
section
/-! DEFINITION. The words of the WL-40: the byte of every port (R167) and the two 32-bit clocks that wrap
(the manual's convention on time): ticks of 125 µs and half-ticks of 62.5 µs. -/

namespace Sys2Proof

/-- One byte on a port, on the site link or in a stored table entry. -/
abbrev Byte := BitVec 8

/-- A station time in ticks of 125 µs, on a count of 32 bits that wraps (R1). -/
abbrev Tick := BitVec 32

/-- A station time in half-ticks of 62.5 µs, on a count of 32 bits that wraps (R18). -/
abbrev HalfTick := BitVec 32

end Sys2Proof
end

