-- ==== Sys2Proof/Syntax.lean ====
section
/-! DEFINITION. The commands of the block: one constructor of `Instr` for each row of the table of operations and
events, with the operands that arrive with the event (the bytes of a port, the level of a line, the straps as read)
and, where several timers of one kind can run, the name of the one that expires. A row that is the delivery of a frame
from the receive queue (R137) has no operand: it takes the oldest frame of that queue (assumption 6). -/

namespace Sys2Proof

/-- A wheel path of the lane. -/
inductive Path | left | right
deriving DecidableEq, Repr

/-- The index of a pavement probe (R41). -/
inductive ProbeIx | p0 | p1
deriving DecidableEq, Repr

/-- A level of the presence line. -/
inductive LineLevel | vacant | occupied
deriving DecidableEq, Repr

/-- A cause that keeps the station in reset while it lasts (R180). -/
inductive HeldCause | line | supply
deriving DecidableEq, Repr

/-- How a frame ends broken (R135): a stop bit found driven, a quiet gap before the end, a payload length above 80. -/
inductive BreakCause | stopBit | quietGap | overLength
deriving DecidableEq, Repr

/-- The strap pins as START reads them (R181). The lane strap 0..7 stands for lane 1..8. -/
structure Straps where
  station : BitVec 4
  laneStrap : BitVec 3
  leftNeighbour : Bool
  rightNeighbour : Bool
  calEnable : Bool
deriving DecidableEq, Repr

/-- The commands, in the order of the table. -/
inductive Instr
  /-- POWER_ON (R180). -/
  | powerOn
  /-- SUPPLY_LOW (R180). -/
  | supplyLow
  /-- RESET_LINE (R180). -/
  | resetLine
  /-- LINK_RESTART (R179). -/
  | linkRestart
  /-- START_DONE (R181): the straps are those START has read. -/
  | startDone (straps : Straps)
  /-- STROBE (R1): the tick counter advances. -/
  | strobe
  /-- SAMPLE_SET (R2, R168): the ten bytes of the set, as four values, the tag byte and the set check. -/
  | sampleSet (v0 v1 v2 v3 : BitVec 16) (tags check : Byte)
  /-- SELFTEST_WAIT_EXPIRY (R182). -/
  | selftestWaitExpiry
  /-- WEIGHING_COMPLETE (R30). -/
  | weighingComplete
  /-- LONE_DECLARATION (R64): the oldest wheel held on the path that can be declared lone. -/
  | loneDeclaration (p : Path)
  /-- CEDER_WAIT_EXPIRY (R73) of the merge-table entry in place `slot`. -/
  | cederWaitExpiry (slot : Nat)
  /-- OWNER_WAIT_EXPIRY (R78). -/
  | ownerWaitExpiry (slot : Nat)
  /-- CONFIRMATION_WAIT_EXPIRY (R81). -/
  | confirmationWaitExpiry (slot : Nat)
  /-- PEER_HALF_EXPIRY (R74) of the entry with that sender and reference. -/
  | peerHalfExpiry (sender ref : Byte)
  /-- GAP_TIMER_EXPIRY (R92). -/
  | gapTimerExpiry
  /-- PRESENCE_LINE_CHANGE (R93): the level the line changes to. -/
  | presenceLineChange (level : LineLevel)
  /-- DEBOUNCE_EXPIRY (R93). -/
  | debounceExpiry
  /-- STUCK_EXPIRY (R94). -/
  | stuckExpiry
  /-- PROBE_READING (R41, R169): byte 0, the value and the reading check. -/
  | probeReading (head : Byte) (value : BitVec 16) (check : Byte)
  /-- STALENESS_EXPIRY (R47) of one probe. -/
  | stalenessExpiry (probe : ProbeIx)
  /-- FRESHNESS_EXPIRY (R52). -/
  | freshnessExpiry
  /-- HELD_TIMER_EXPIRY (R53). -/
  | heldTimerExpiry
  /-- BEACON_TIMER_EXPIRY (R118). -/
  | beaconTimerExpiry
  /-- FRAME_COMPLETE (R136): the bytes of the frame; its payload-length byte is the length of `payload`. -/
  | frameComplete (kind source dest : Byte) (payload : List Byte) (crc : BitVec 16)
  /-- FRAME_BROKEN (R135). -/
  | frameBroken (cause : BreakCause)
  /-- BEACON_RECEIVED (R123). -/
  | beaconReceived
  /-- LOSS_EXPIRY (R126) of the entry with that station number. -/
  | lossExpiry (station : Byte)
  /-- HALF_AXLE_RECEIVED (R74). -/
  | halfAxleReceived
  /-- MERGE_TAKE_RECEIVED (R72). -/
  | mergeTakeReceived
  /-- MERGE_CEDE_RECEIVED (R79). -/
  | mergeCedeReceived
  /-- MERGE_REFUSE_RECEIVED (R80). -/
  | mergeRefuseReceived
  /-- SLOT_BEGIN (R139). -/
  | slotBegin
  /-- COLLISION (R143). -/
  | collision
  /-- TRANSMISSION_COMPLETE (R146). -/
  | transmissionComplete
  /-- HOLD (R151). -/
  | hold
  /-- RESUME (R151). -/
  | resume
  /-- HOLD_TIMER_EXPIRY (R151). -/
  | holdTimerExpiry
  /-- TEMP_REQUEST (R58). -/
  | tempRequest
  /-- SCREEN (R110). -/
  | screen
  /-- REZERO (R19). -/
  | rezero
  /-- TABLE_READ (R164). -/
  | tableRead
  /-- TABLE_WRITE (R162). -/
  | tableWrite
  /-- TABLE_CUT (R163). -/
  | tableCut
  /-- LOCK (R165). -/
  | lock
  /-- ERASE (R166). -/
  | erase
  /-- RESTART (R179). -/
  | restart
  /-- WRITE_COMPLETE (R162). -/
  | writeComplete
  /-- CUT_COMPLETE (R163). -/
  | cutComplete
  /-- ERASE_COMPLETE (R166). -/
  | eraseComplete
  /-- RESET_CAUSE_END (R180): the cause that ends. -/
  | resetCauseEnd (cause : HeldCause)
  /-- START_BIT_SEEN (R139). -/
  | startBitSeen
deriving DecidableEq, Repr

end Sys2Proof
end

