-- ==== Sys2Proof/Config.lean ====
section
/-! DEFINITION. What the manual leaves open as a value: constants without a body, so that no proof can rest on what they
are. -/

namespace Sys2Proof

/-- FREE VALUE (assumption 14). R172 codes the first-axle temperature of a VEHICLE frame as value + 400 in eleven bits,
0..1200. R171 lets a neighbour's HALF_AXLE carry any signed 16-bit temperature, and R112 can take that value as the
first-axle temperature. What the eleven bits hold for a temperature outside −400..+800 the manual does not say. -/
opaque Config.vehicleTempField : Int → BitVec 11

/-- FREE VALUE (assumption 15). The destination byte of a VEHICLE frame: R133 gives every frame a destination, and no rule
states that of a VEHICLE frame. -/
opaque Config.vehicleDestination : Byte

end Sys2Proof
end

