-- ==== Sys2Proof/Machine/Parts.lean ====
section
/-! DEFINITION. The parts of the state, block by block as the manual's block diagram has them, all plain data. A type's
docstring names the rules that give its fields. -/

namespace Sys2Proof.Machine

open Sys2Proof

/-! ### Small containers: one value for each channel, path or probe -/

/-- The four logical channels (the sensor table of the introduction). -/
inductive Chan | al | ar | bl | br
deriving DecidableEq, Repr

/-- One value for each logical channel. -/
structure Quad (α : Type) where
  al : α
  ar : α
  bl : α
  br : α
deriving DecidableEq, Repr

/-- One value for each wheel path. -/
structure PerPath (α : Type) where
  left : α
  right : α
deriving DecidableEq, Repr

/-- One value for each pavement probe. -/
structure PerProbe (α : Type) where
  p0 : α
  p1 : α
deriving DecidableEq, Repr

/-! ### Sample intake and pulse detectors (chapter 1) -/

/-- The pulse under way (the list before R6). The below count is R14's, the saturation mark R15's. -/
structure Pulse where
  onset : Tick
  lastAbove : Tick
  area : Nat
  tentative : Int
  below : Nat
  clipped : Bool
  gapped : Bool
  long : Bool
  saturated : Bool
deriving DecidableEq, Repr

/-- The state of a pulse detector; the pulse under way is held in IN_PULSE only. -/
inductive ChanState
  | acquiring
  | ready
  | inPulse (p : Pulse)
  | fault
deriving DecidableEq, Repr

/-- A pulse detector. `base` is the baseline b16, sixteen times its value, or none while unseeded. -/
structure Detector where
  state : ChanState
  base : Option Int
  settle : Nat
  missing : Nat
  good : Nat
  rezero : Bool
deriving DecidableEq, Repr

/-- A pulse record (R18). Its centre is `onset + last`, see `PulseRec.centre`. -/
structure PulseRec where
  chan : Chan
  onset : Tick
  last : Tick
  area : Nat
  clipped : Bool
  gapped : Bool
  long : Bool
deriving DecidableEq, Repr

/-- The centre h of a pulse, in half-ticks: onset + end modulo 2^32 (R18). -/
def PulseRec.centre (r : PulseRec) : HalfTick := r.onset + r.last

/-! ### Speed pairer and weigh unit (chapter 2) -/

/-- The source of a temperature (R50), from best to worst. -/
inductive Source | probe | altProbe | peer | held | default
deriving DecidableEq, Repr

/-- A wheel hit as the speed pairer forms it (R24). Its B-centre is `WheelHit.centre`. -/
structure WheelHit where
  path : Path
  speed : Nat
  aPulse : PulseRec
  bPulse : PulseRec
deriving DecidableEq, Repr

/-- The B-centre of a wheel hit, the wheel's time for all later work (R24). -/
def WheelHit.centre (h : WheelHit) : HalfTick := h.bPulse.centre

/-- What is known of one wheel's weighing: the outcome of R40 for an own wheel, the fields of R71 for a peer wheel. -/
structure WheelData where
  load : Option Nat
  clipped : Bool
  disagree : Bool
  notWeighed : Bool
  uncalibrated : Bool
  temp : Option Int
  source : Option Source
deriving DecidableEq, Repr

/-- A wheel hit with its weighing outcome, as it goes to the axle former (R40). -/
structure WeighedHit where
  hit : WheelHit
  data : WheelData
deriving DecidableEq, Repr

/-- The weighing in flight with all that it took at its beginning (R28) and the tick it began (R30). -/
structure Weighing where
  hit : WheelHit
  begun : Tick
  temp : Int
  source : Source
  gain : List Nat
  band : List (Nat × Nat)
  temps : List (Int × Nat)
  limit : Nat
  calibrated : Bool
deriving DecidableEq, Repr

/-- The weigh unit: the weigh queue, oldest first, and the weighing in flight (R27, R28). -/
structure WeighUnit where
  queue : List WheelHit
  inFlight : Option Weighing
deriving DecidableEq, Repr

/-! ### Temperature unit (chapter 3) -/

/-- The states of a probe (R44). -/
inductive ProbeState | absent | waiting | valid | stale | fault
deriving DecidableEq, Repr

/-- A probe record (R44). Its filtered value is the mean of the ring, see `filtered`. -/
structure Probe where
  state : ProbeState
  ring : List Int
  lastGood : Option Tick
  bad : Nat
  good : Nat
deriving DecidableEq, Repr

/-- The temperature unit: probe records (R44), effective temperature and source (R50), held value and held timer (R53),
freshness expiry (R52) and the figures since the last report (R56). -/
structure TempUnit where
  probes : PerProbe Probe
  value : Int
  source : Source
  held : Option Int
  heldExpiry : Option Tick
  freshExpiry : Option Tick
  least : Int
  greatest : Int
  goodReadings : Nat
deriving DecidableEq, Repr

/-! ### Axle former (chapter 4) -/

/-- A wheel in a holding list with its pairing window and window end (R60, R61). -/
structure HeldWheel where
  wheel : WeighedHit
  window : Nat
  windowEnd : HalfTick
deriving DecidableEq, Repr

/-- The states of a merge-table entry (R69). OFFERED and CEDED belong to the ceder role, WAITING and TAKEN to the owner. -/
inductive MergeState | offered | ceded | waiting | taken
deriving DecidableEq, Repr

/-- The own wheel of a half axle, kept so that its axle can be restored (R69). -/
structure OwnWheel where
  path : Path
  time : HalfTick
  speed : Nat
  data : WheelData
deriving DecidableEq, Repr

/-- A merge-table entry (R69). `slot` is the place it has in the table, the model's name for the entry; the vehicle link is
the vehicle number together with the axle of that vehicle whose `link` is the same slot. -/
structure MergeEntry where
  slot : Nat
  state : MergeState
  partner : Byte
  ref : Option Byte
  deadline : Tick
  vehicle : BitVec 16
  own : OwnWheel
deriving DecidableEq, Repr

/-- A peer-half table entry (R74), its centre in own half-ticks. -/
structure PeerHalf where
  sender : Byte
  ref : Byte
  centre : HalfTick
  speed : Nat
  data : WheelData
  expiry : Tick
deriving DecidableEq, Repr

/-- The axle former: holding lists (R60), merge table (R69), peer-half table (R74), each oldest first, and the reference
counter (R69). -/
structure Former where
  holding : PerPath (List HeldWheel)
  merges : List MergeEntry
  halves : List PeerHalf
  refCounter : Byte
deriving DecidableEq, Repr

/-! ### Vehicle assembler, classifier and screen (chapters 5 and 6) -/

/-- The kinds of an axle (R66). -/
inductive AxleKind | full | part | merged | pending
deriving DecidableEq, Repr

/-- An axle record (R66). `link` is the place of the merge-table entry linked to it (R82), or none. -/
structure Axle where
  time : HalfTick
  speed : Nat
  left : Option WheelData
  right : Option WheelData
  kind : AxleKind
  unconfirmed : Bool
  ref : Option Byte
  link : Option Nat
deriving DecidableEq, Repr

/-- The states of a vehicle entry (R84). -/
inductive VehicleState | opened | closing | closed | ready | queued
deriving DecidableEq, Repr

/-- Why an entry left OPEN (R84). -/
inductive CloseCause | gap | vacancy | spacing | speed | axleLimit
deriving DecidableEq, Repr

/-- The reasons of NOT_SCREENED, in the order of R111. -/
inductive Reason
  | notLocked | notCalibrated | screenOff | cls | speedBand | tempSource | tempBand
  | part | unconfirmed | clipped | disagree | notWeighed | chain
deriving DecidableEq, Repr

/-- The screening outcome (R111, R113). -/
inductive Screening
  | clear
  | overload
  | notScreened (reason : Reason)
deriving DecidableEq, Repr

/-- The overload notice state (R115). -/
inductive NoticeState | none | slot | queued | dropped
deriving DecidableEq, Repr

/-- The outcome fields of a classed vehicle (R116). -/
structure Classed where
  total : Nat
  cls : Nat
  entry : Option Nat
  gross : Nat
  incomplete : Bool
  speed : Nat
  worst : Option Source
  firstTemp : Option Int
  screening : Screening
  exceeding : List (Nat × Nat)
  grossExceeds : Bool
  notice : NoticeState
deriving DecidableEq, Repr

/-- A vehicle entry in use (R84). Its spacing list is computed from its axles, see `spacings`. -/
structure Vehicle where
  number : BitVec 16
  state : VehicleState
  axles : List Axle
  firstSpeed : Nat
  lastTime : HalfTick
  lastSpeed : Nat
  gapExpiry : Option Tick
  lead : Nat
  truncated : Bool
  continuation : Bool
  uncalibrated : Bool
  cause : Option CloseCause
  outcome : Option Classed
deriving DecidableEq, Repr

/-- The presence state with the timer that runs in it (R93, R94). -/
inductive Presence
  | vacant
  | occupied (stuckExpiry : Tick)
  | vacating (debounceExpiry : Tick)
  | stuck
deriving DecidableEq, Repr

/-- The vehicle assembler: the entries in use in the order of their opening (R84), the vehicle number counter (R85), the
number last opened (R102), the closing order as the numbers of the entries that have entered CLOSED (R98), the presence
state or none while it is not kept (R95), and the run count (R101). -/
structure Assembler where
  entries : List Vehicle
  counter : BitVec 16
  lastOpened : Option (BitVec 16)
  closingOrder : List (BitVec 16)
  presence : Option Presence
  runCount : Nat
deriving DecidableEq, Repr

/-! ### Peer table (chapter 7) -/

/-- The states of a peer entry (R122). -/
inductive PeerState | heard | aligned | drifting | lost
deriving DecidableEq, Repr

/-- A peer-table entry (R122). -/
structure Peer where
  station : Byte
  lane : Byte
  group : Nat
  temp : Int
  source : Source
  last : Tick
  offset : BitVec 32
  previous : Option (BitVec 32)
  stable : Nat
  state : PeerState
  lossExpiry : Tick
deriving DecidableEq, Repr

/-! ### Link controller (chapter 8) -/

/-- The kinds of frame that the station sends (R138, R170). -/
inductive FrameKind
  | overload | mergeTake | mergeCede | mergeRefuse
  | halfAxle | vehicle | reply | tableData
  | beacon | start | temperature | laneClear
deriving DecidableEq, Repr

/-- The twelve kinds of notice (R184), in order of priority. -/
inductive Notice
  | calCheck | channelFault | linkFault | duplicateId | laneConflict | probeFault
  | tempDefault | peerDrift | queueLoss | mergeConflict | peerOverflow | presenceStuck
deriving DecidableEq, Repr

/-- A frame the station holds for sending: its kind, destination and payload bytes, the vehicle whose VEHICLE frame it is
(R147), the notices a beacon will clear on report when it completes (R185), whether it is the REPLY of a RESTART (R179),
its collision count and backoff draw (R143), and whether it is in transmission (R146). -/
structure TxFrame where
  kind : FrameKind
  dest : Byte
  payload : List Byte
  vehicle : Option (BitVec 16)
  clears : List Notice
  restartReply : Bool
  collisions : Nat
  backoff : Nat
  sending : Bool
deriving DecidableEq, Repr

/-- A frame in the receive queue with its receive stamp (R121, R137). -/
structure RxFrame where
  kind : Byte
  source : Byte
  dest : Byte
  payload : List Byte
  stamp : Tick
deriving DecidableEq, Repr

/-- The receive path (R135): inactive, waiting for a quiet gap of 12 bit times, idle, or reading a frame whose first start
bit began at the stamp. -/
inductive RxPath
  | inactive
  | waitQuiet
  | idle
  | reading (stamp : Tick)
deriving DecidableEq, Repr

/-- An access round in progress (R139): the slot that has begun last, and the yield flag as it stood when the round began
(R141). -/
structure Round where
  slot : Nat
  yielding : Bool
deriving DecidableEq, Repr

/-- The link controller: receive path and queue (R135, R137), whether the oldest frame of the receive queue is due for
delivery at this tick (R137), immediate slot and transmit queue in the order of admission (R147), the round in progress
(R139), yield flag (R141), hold timer's expiry while held (R151), backoff generator (R144), and the bytes of the frame whose
transmission completed last, as they stood on the line (R133; the model's own field, assumption 21). -/
structure Link where
  rxPath : RxPath
  rxQueue : List RxFrame
  due : Bool
  immediate : Option TxFrame
  queue : List TxFrame
  round : Option Round
  yieldFlag : Bool
  hold : Option Tick
  lfsr : BitVec 16
  lastSent : List Byte
deriving DecidableEq, Repr

/-! ### Calibration memory (chapter 9) -/

/-- A stored table (R153): count, entries in the byte layout of R176, check byte and open mark. -/
structure Stored where
  count : Nat
  entries : List (List Byte)
  check : Byte
  openMark : Bool
deriving DecidableEq, Repr

/-- The change a write or cut in flight makes to its table (R160). -/
inductive Change
  | entry (index : Nat) (bytes : List Byte)
  | cut (count : Nat)
deriving DecidableEq, Repr

/-- The state of the calibration memory (R160); the source is that of the command, to which DONE will be addressed. -/
inductive Activity
  | idle
  | writing (table : Nat) (change : Change) (source : Byte) (begun : Tick)
  | erasing (source : Byte) (begun : Tick)
deriving DecidableEq, Repr

/-- The SCREEN record (R109). -/
structure ScreenRec where
  speedLow : Nat
  speedHigh : Nat
  tempLow : Int
  tempHigh : Int
  limit : Nat
deriving DecidableEq, Repr

/-- A class entry (R104). -/
structure ClassEntry where
  code : Nat
  gaps : List (Nat × Nat)
  grossLow : Nat
  grossHigh : Nat
  axleLimit : Nat
  grossLimit : Nat
deriving DecidableEq, Repr

/-- The working copies of tables 1 to 12 (R158). An absent copy is an empty list, or none for SCREEN; a present table holds
at least one entry, so the two cannot be confused. `pages` holds the class pages for 2..9 axles in that order. -/
structure Working where
  gain : List Nat
  band : List (Nat × Nat)
  temps : List (Int × Nat)
  screen : Option ScreenRec
  pages : List (List ClassEntry)
deriving DecidableEq, Repr

/-- The calibration memory: the stored tables 0..12, lock and erase marker, which are non-volatile (R160), and the working
copies, calibrated flag, failed set and activity, which are not. -/
structure CalMemory where
  tables : List Stored
  lock : Bool
  eraseMarker : Bool
  working : Working
  calibrated : Bool
  failed : List Nat
  activity : Activity
deriving DecidableEq, Repr

/-- The settings of the SETUP record (R155), as the blocks have loaded them in START. -/
structure Setup where
  spacing : Nat
  map : Quad (BitVec 2)
  swapA : Bool
  swapB : Bool
  tOn : Nat
  tOff : Nat
  q : Nat
  dmax : Nat
  maxSpacing : Nat
  skew : Nat
  presenceUsed : Bool
  assigned : PerProbe Bool
  weighing : Option ProbeIx
  group : Nat
  defaultTemp : Int
  interval : Nat
  clearCount : Nat
deriving DecidableEq, Repr

/-! ### Station control (chapter 11) -/

/-- The four kinds of reset (R180). -/
inductive ResetKind | powerOn | supplyLow | resetLine | linkRestart
deriving DecidableEq, Repr

/-- The station state (R180, R181): held in reset of a kind, or one of the four states. -/
inductive StationState
  | inReset (kind : ResetKind)
  | start
  | selftest
  | settling
  | run
deriving DecidableEq, Repr

/-- The self-test findings (R182): SAMPLE_PORT_SILENT and the copy of the failed set. Their
value before the end of the self-test wait is assumption 10. -/
structure Findings where
  silent : Bool
  failed : List Nat
deriving DecidableEq, Repr

/-- Station control: station state, reset cause and supply-low count (R180), findings and the expiry of the self-test wait
(R182), the beacon timer's expiry (R118), the report count (R57) and whether a restart is pending (R179). -/
structure Control where
  station : StationState
  resetCause : ResetKind
  supplyLowCount : Nat
  findings : Findings
  waitExpiry : Option Tick
  beaconExpiry : Option Tick
  reportCount : Nat
  restartPending : Bool
deriving DecidableEq, Repr

/-- The pending notices that clear on report (R184). The other seven kinds are pending exactly while a condition of the
state holds, see `isPending`. -/
structure Raised where
  linkFault : Bool
  duplicateId : Bool
  queueLoss : Bool
  mergeConflict : Bool
  peerOverflow : Bool
deriving DecidableEq, Repr

/-- The station's counters, in the order of table 13 (R157, R186). -/
structure Counters where
  vehiclesSent : Nat
  axlesFormed : Nat
  orphanA : Nat
  orphanB : Nat
  weighLoss : Nat
  vehicleLoss : Nat
  mergeFull : Nat
  halvesDropped : Nat
  mergesTaken : Nat
  mergesCeded : Nat
  mergeConflict : Nat
  unconfirmed : Nat
  cededWhole : Nat
  rxLoss : Nat
  crcFailures : Nat
  txDrop : Nat
  collisions : Nat
  abandoned : Nat
deriving DecidableEq, Repr

/-- The levels the outside holds at the pins between events: the presence line (R93), the reset line and the supply (R180). -/
structure Pins where
  line : LineLevel
  resetAsserted : Bool
  supplyBelow : Bool
deriving DecidableEq, Repr

end Sys2Proof.Machine
end

