-- ==== Sys2Proof/Machine/ResetValues.lean ====
section
/-! DEFINITION. The value each block takes after reset. -/

namespace Sys2Proof.Machine

open Sys2Proof

/-- A detector after every kind of reset (R7). -/
def Detector.reset : Detector :=
  { state := .acquiring, base := none, settle := 0, missing := 0, good := 0, rezero := false }

/-- A probe record after every kind of reset (R44). -/
def Probe.reset : Probe := { state := .absent, ring := [], lastGood := none, bad := 0, good := 0 }

/-- The built-in settings, used when SETUP is absent at start (R155). -/
def Setup.builtIn : Setup :=
  { spacing := 4000, map := ⟨0, 1, 2, 3⟩, swapA := false, swapB := false, tOn := 400, tOff := 200, q := 4, dmax := 4000,
    maxSpacing := 12000, skew := 300, presenceUsed := true, assigned := ⟨false, false⟩, weighing := none, group := 0,
    defaultTemp := 200, interval := 60, clearCount := 10 }

/-- The temperature unit after every kind of reset, before START sets its values (R53, R54, R56). -/
def TempUnit.reset : TempUnit :=
  { probes := ⟨.reset, .reset⟩, value := 200, source := .default, held := none, heldExpiry := none, freshExpiry := none,
    least := 200, greatest := 200, goodReadings := 0 }

/-- The axle former after every kind of reset (R60, R69, R74). -/
def Former.reset : Former := { holding := ⟨[], []⟩, merges := [], halves := [], refCounter := 0 }

/-- The vehicle assembler after every kind of reset (R84, R85, R95, R101). -/
def Assembler.reset : Assembler :=
  { entries := [], counter := 0, lastOpened := none, closingOrder := [], presence := none, runCount := 0 }

/-- The link controller after every kind of reset (R152). -/
def Link.reset : Link :=
  { rxPath := .inactive, rxQueue := [], due := false, immediate := none, queue := [], round := none, yieldFlag := false,
    hold := none, lfsr := 1, lastSent := [] }

/-- No working copy is present. -/
def Working.absent : Working :=
  { gain := [], band := [], temps := [], screen := none, pages := List.replicate 8 [] }

/-- A table that has never been written has count 0 (R153). -/
def Stored.blank : Stored := { count := 0, entries := [], check := 0, openMark := false }

/-- A calibration memory that has never been written. -/
def CalMemory.blank : CalMemory :=
  { tables := List.replicate 13 .blank, lock := false, eraseMarker := false, working := .absent, calibrated := false,
    failed := [], activity := .idle }

/-- No notice that clears on report is pending (R184). -/
def Raised.none : Raised :=
  { linkFault := false, duplicateId := false, queueLoss := false, mergeConflict := false, peerOverflow := false }

/-- Every kind of reset sets every counter to 0 (R186). -/
def Counters.zero : Counters :=
  { vehiclesSent := 0, axlesFormed := 0, orphanA := 0, orphanB := 0, weighLoss := 0, vehicleLoss := 0, mergeFull := 0,
    halvesDropped := 0, mergesTaken := 0, mergesCeded := 0, mergeConflict := 0, unconfirmed := 0, cededWhole := 0,
    rxLoss := 0, crcFailures := 0, txDrop := 0, collisions := 0, abandoned := 0 }

/-- Station control as a reset of that kind leaves it when the station enters START (R180). The self-test
findings, which R182 gives only at the end of the self-test wait, stand clear and empty: DESIGN CHOICE, assumption 10. -/
def Control.inStart (kind : ResetKind) (supplyLow : Nat) : Control :=
  { station := .start, resetCause := kind, supplyLowCount := supplyLow, findings := ⟨false, []⟩, waitExpiry := none,
    beaconExpiry := none, reportCount := 0, restartPending := false }

end Sys2Proof.Machine
end

