-- ==== Sys2Proof/Machine/State.lean ====
section
/-! DEFINITION. The state of the WL-40 as plain data, the ways a command can stop (none), and the machine right after
reset. -/

namespace Sys2Proof.Machine

open Sys2Proof

/-! ### The whole station -/

/-- The state of the station and the queue of commands that wait, first in, first out. -/
structure State where
  tick : Tick
  outstanding : Option Tick
  ctl : Control
  straps : Straps
  raised : Raised
  setup : Setup
  pins : Pins
  det : Quad Detector
  pairer : PerPath (List PulseRec)
  weigh : WeighUnit
  temp : TempUnit
  former : Former
  veh : Assembler
  screenOn : Bool
  peers : List Peer
  link : Link
  cal : CalMemory
  counters : Counters
  pending : List Instr
deriving DecidableEq, Repr

/-- How a command can stop the station: never. The manual gives every command an effect, and a command whose event cannot
occur in a state changes nothing there (assumption 3). -/
inductive Fault
deriving DecidableEq, Repr

/-- Why a command is not run. -/
inductive Refusal
  /-- Raised by `exec` for a command whose meaning is not modelled yet; safe, since the model stops. No arm raises it. -/
  | notModelled (mnemonic : String)
deriving DecidableEq, Repr

/-- The machine right after reset: a POWER_ON whose cause has ended, at entry into START with the tick counter at 0, of a
station whose calibration memory was never written (assumptions 8 to 11). -/
def State.reset : State :=
  { tick := 0, outstanding := none, ctl := .inStart .powerOn 0, straps := ⟨0, 0, false, false, false⟩, raised := .none,
    setup := .builtIn, pins := ⟨.vacant, false, false⟩, det := ⟨.reset, .reset, .reset, .reset⟩, pairer := ⟨[], []⟩,
    weigh := ⟨[], none⟩, temp := .reset, former := .reset, veh := .reset, screenOn := true, peers := [], link := .reset,
    cal := .blank, counters := .zero, pending := [] }

/-! ### One update for each block of the state; their laws stand in `Sys2Proof/Laws/State.lean` -/

/-- The state with the tick counter set. -/
def State.withTick (s : State) (x : Tick) : State := { s with tick := x }

/-- The state with the outstanding request set. -/
def State.withOutstanding (s : State) (x : Option Tick) : State := { s with outstanding := x }

/-- The state with station control set. -/
def State.withCtl (s : State) (x : Control) : State := { s with ctl := x }

/-- The state with the straps set. -/
def State.withStraps (s : State) (x : Straps) : State := { s with straps := x }

/-- The state with the notices that clear on report set. -/
def State.withRaised (s : State) (x : Raised) : State := { s with raised := x }

/-- The state with the settings in use set. -/
def State.withSetup (s : State) (x : Setup) : State := { s with setup := x }

/-- The state with the levels at the pins set. -/
def State.withPins (s : State) (x : Pins) : State := { s with pins := x }

/-- The state with the four detectors set. -/
def State.withDet (s : State) (x : Quad Detector) : State := { s with det := x }

/-- The state with the A-pending lists set. -/
def State.withPairer (s : State) (x : PerPath (List PulseRec)) : State := { s with pairer := x }

/-- The state with the weigh unit set. -/
def State.withWeigh (s : State) (x : WeighUnit) : State := { s with weigh := x }

/-- The state with the temperature unit set. -/
def State.withTemp (s : State) (x : TempUnit) : State := { s with temp := x }

/-- The state with the axle former set. -/
def State.withFormer (s : State) (x : Former) : State := { s with former := x }

/-- The state with the vehicle assembler set. -/
def State.withVeh (s : State) (x : Assembler) : State := { s with veh := x }

/-- The state with the screening flag set. -/
def State.withScreenOn (s : State) (x : Bool) : State := { s with screenOn := x }

/-- The state with the peer table set. -/
def State.withPeers (s : State) (x : List Peer) : State := { s with peers := x }

/-- The state with the link controller set. -/
def State.withLink (s : State) (x : Link) : State := { s with link := x }

/-- The state with the calibration memory set. -/
def State.withCal (s : State) (x : CalMemory) : State := { s with cal := x }

/-- The state with the counters set. -/
def State.withCounters (s : State) (x : Counters) : State := { s with counters := x }

/-- The state with the queue of waiting commands set. -/
def State.withPending (s : State) (x : List Instr) : State := { s with pending := x }

end Sys2Proof.Machine
end

