-- ==== Sys2Proof/Machine/Consts.lean ====
section
/-! DEFINITION. The numbers the manual fixes, each with the rule that gives it. Times are in ticks. -/

namespace Sys2Proof.Machine

/-- Good samples in a row that settle a baseline (R8). -/
def settleTarget : Nat := 2000
/-- Missing samples in a row that send a detector to FAULT (R10). -/
def missingLimit : Nat := 8
/-- Good samples in a row that end FAULT (R11). -/
def recoveryTarget : Nat := 64
/-- The greatest pulse area, 2^31 − 1 (R15). -/
def areaMax : Nat := 2147483647

/-- Capacity of an A-pending list (R21). -/
def pendingCap : Nat := 8
/-- Half-ticks in a second (R23). -/
def halfTicksPerSecond : Nat := 16000
/-- The lowest and the highest speed that pairs, in mm/s (R22). -/
def speedMin : Nat := 1389
def speedMax : Nat := 69444
/-- Capacity of the weigh queue (R27). -/
def weighCap : Nat := 8
/-- The greatest load, in kg (R35). -/
def loadMax : Nat := 65535
/-- The disagreement limit while SCREEN is absent, per cent (R28). -/
def defaultLimit : Nat := 25

/-- Capacity of a probe's ring (R45). -/
def ringCap : Nat := 8
/-- The temperature range, in 0.1 °C (R43). -/
def tempMin : Int := -400
def tempMax : Int := 800
/-- The greatest deviation of a good reading of a VALID probe (R43). -/
def deviationMax : Nat := 50
/-- Bad readings in a row that send a probe to FAULT (R47). -/
def badLimit : Nat := 3
/-- Values that make a WAITING probe VALID (R46), and good readings in a row that end FAULT (R49). -/
def waitingTarget : Nat := 4
def probeRecovery : Nat := 8
/-- A VALID probe goes STALE after this time without a good reading (R47). -/
def stalenessTime : Nat := 80000
/-- A beacon's temperature is fresh for this time (R51). -/
def freshnessTime : Nat := 24000
/-- The held timer (R53). -/
def heldTime : Nat := 4800000

/-- Capacity of a holding list (R60). -/
def holdingCap : Nat := 4
/-- The least pairing window, in half-ticks (R61). -/
def windowMin : Nat := 16
/-- Capacity of the merge table (R69) and of the peer-half table (R74). -/
def mergeCap : Nat := 8
def halvesCap : Nat := 8
/-- The waits of the merge table (R69). -/
def cederWait : Nat := 3200
def ownerWait : Nat := 1200
def confirmationWait : Nat := 2400
def peerHalfHold : Nat := 3200
/-- The match window, in half-ticks (R76). -/
def matchWindow : Nat := 160

/-- Capacity of the vehicle table and of one axle list (R84). -/
def vehicleCap : Nat := 8
def axleCap : Nat := 12
/-- The greatest spacing, in mm (R88), and the greatest lead count (R90). -/
def spacingMax : Nat := 65535
def leadMax : Nat := 255
/-- What the gap timer adds to the time of the maximum spacing (R92). -/
def gapMargin : Nat := 2000
/-- The debounce and stuck times of the presence line (R93, R94). -/
def debounceTime : Nat := 320
def stuckTime : Nat := 480000

/-- Capacity of the peer table (R122). -/
def peerCap : Nat := 15
/-- The largest change of offset of a stable beacon (R125), stable beacons in a row that align (R125), and the loss time
(R124). -/
def stableChange : Nat := 2
def stableTarget : Nat := 4
def lossTime : Nat := 28000
/-- The beacon period (R118). -/
def beaconPeriod : Nat := 8000

/-- The greatest payload of a frame (R133). -/
def payloadMax : Nat := 80
/-- Capacity of the receive queue (R137) and of the transmit queue (R147). -/
def rxCap : Nat := 8
def txCap : Nat := 16
/-- A round ends at the beginning of this slot (R139); the yield flag clears at the beginning of slot 32 (R141). -/
def roundSlots : Nat := 320
def yieldSlot : Nat := 32
/-- Collisions that abandon a frame (R145). -/
def collisionLimit : Nat := 8
/-- The hold time (R151). -/
def holdTime : Nat := 16000

/-- The self-test wait (R182). -/
def selftestWait : Nat := 800
/-- The greatest value of a 16-bit count that saturates (R186). -/
def countMax : Nat := 65535

end Sys2Proof.Machine
end

