-- ==== Sys2Proof/Machine/Arith.lean ====
section
/-! DEFINITION. The arithmetic of the manual's conventions: rounding, signed differences of station times, containers and
lists. -/

namespace Sys2Proof.Machine

open Sys2Proof

/-! ### Rounding (the conventions on arithmetic) -/

/-- The quotient n / d rounded half up, for a quantity that cannot be negative. -/
def roundHalfUp (n d : Nat) : Nat := (2 * n + d) / (2 * d)

/-- The quotient n / d rounded half away from zero, for a signed quantity. -/
def roundAway (n : Int) (d : Nat) : Int :=
  if n < 0 then -(roundHalfUp n.natAbs d : Int) else (roundHalfUp n.natAbs d : Int)

/-- The quotient n / d rounded up. -/
def ceilDiv (n d : Nat) : Nat := (n + d - 1) / d

/-- The mean of a list of integers: their sum divided by their number, rounded half away from zero. -/
def meanInt (l : List Int) : Int := roundAway l.sum l.length

/-- A 16-bit count raised by one; at 65,535 it stays (R186). -/
def satInc (n : Nat) : Nat := if n < countMax then n + 1 else countMax

/-! ### Station times (the conventions on time) -/

/-- The difference u − t modulo 2^32, read as a signed 32-bit number. -/
def sdiff (u t : BitVec 32) : Int := (u - t).toInt

/-- Time u is later than time t. -/
def isLater (u t : BitVec 32) : Bool := decide (0 < sdiff u t)

/-- Time u is at or past time t: an expiry t has been reached. -/
def reached (u t : BitVec 32) : Bool := decide (0 ≤ sdiff u t)

/-- Two times lie within n of each other, equality passing. -/
def within (u t : BitVec 32) (n : Nat) : Bool := decide ((sdiff u t).natAbs ≤ n)

/-- A time n ticks or half-ticks after t. -/
def after (t : BitVec 32) (n : Nat) : BitVec 32 := t + BitVec.ofNat 32 n

/-- Tick t in half-ticks is 2t. -/
def inHalfTicks (t : Tick) : HalfTick := t + t

/-- The mean of two B-centres, formed on their signed difference, half rounded up (R67). -/
def meanTime (h1 h2 : HalfTick) : HalfTick :=
  if sdiff h2 h1 < 0 then after h2 (roundHalfUp (sdiff h2 h1).natAbs 2) else after h1 (roundHalfUp (sdiff h2 h1).natAbs 2)

/-! ### Speeds -/

/-- A speed in mm/s as a record speed in 0.1 km/h, rounded half up (R23). -/
def recordSpeed (v : Nat) : Nat := roundHalfUp (v * 36) 1000

/-- A record speed in mm/s, rounded half up (R74). -/
def mmPerSecond (r : Nat) : Nat := roundHalfUp (r * 1000) 36

/-- The speeds differ by no more than 10 % of the lower (R62). -/
def speedsAgree (v1 v2 : Nat) : Bool := decide (((v1 : Int) - v2).natAbs * 10 ≤ min v1 v2)

/-! ### Containers -/

/-- The value of a channel. -/
def Quad.get {α : Type} (q : Quad α) : Chan → α
  | .al => q.al
  | .ar => q.ar
  | .bl => q.bl
  | .br => q.br

/-- The value of a channel replaced. -/
def Quad.set {α : Type} (q : Quad α) (c : Chan) (x : α) : Quad α :=
  match c with
  | .al => { q with al := x }
  | .ar => { q with ar := x }
  | .bl => { q with bl := x }
  | .br => { q with br := x }

/-- All four values satisfy a test. -/
def Quad.all {α : Type} (q : Quad α) (f : α → Bool) : Bool := f q.al && f q.ar && f q.bl && f q.br

/-- The value of a path. -/
def PerPath.get {α : Type} (q : PerPath α) : Path → α
  | .left => q.left
  | .right => q.right

/-- The value of a path replaced. -/
def PerPath.set {α : Type} (q : PerPath α) (p : Path) (x : α) : PerPath α :=
  match p with
  | .left => { q with left := x }
  | .right => { q with right := x }

/-- The other path. -/
def otherPath : Path → Path
  | .left => .right
  | .right => .left

/-- The value of a probe. -/
def PerProbe.get {α : Type} (q : PerProbe α) : ProbeIx → α
  | .p0 => q.p0
  | .p1 => q.p1

/-- The value of a probe replaced. -/
def PerProbe.set {α : Type} (q : PerProbe α) (p : ProbeIx) (x : α) : PerProbe α :=
  match p with
  | .p0 => { q with p0 := x }
  | .p1 => { q with p1 := x }

/-- The other probe. -/
def otherProbe : ProbeIx → ProbeIx
  | .p0 => .p1
  | .p1 => .p0

/-! ### Lists that keep an order -/

/-- The first element that satisfies a test, and the list without it. -/
def takeFirst {α : Type} (f : α → Bool) : List α → Option (α × List α)
  | [] => none
  | a :: l => if f a then some (a, l) else (takeFirst f l).map fun r => (r.1, a :: r.2)

/-- The list with its first element that satisfies a test changed. -/
def changeFirst {α : Type} (f : α → Bool) (g : α → α) : List α → List α
  | [] => []
  | a :: l => if f a then g a :: l else a :: changeFirst f g l

/-- The list without its first element that satisfies a test. -/
def dropFirst {α : Type} (f : α → Bool) : List α → List α
  | [] => []
  | a :: l => if f a then l else a :: dropFirst f l

/-- The list without its last element that satisfies a test. -/
def dropLast {α : Type} (f : α → Bool) (l : List α) : List α := (dropFirst f l.reverse).reverse

/-- An item appended at the newest end; at the capacity the oldest is first removed. -/
def pushBounded {α : Type} (cap : Nat) (l : List α) (a : α) : List α :=
  if l.length < cap then l ++ [a] else l.drop 1 ++ [a]

end Sys2Proof.Machine
end

