-- ==== Sys2Proof/Machine/Operands.lean ====
section
/-! DEFINITION. How the fields of ports, frames and table entries are written in bytes (chapter 10), the CRC of R134, and
what the received bytes mean. -/

namespace Sys2Proof.Machine

open Sys2Proof

/-! ### Bytes and fields (R167) -/

/-- Byte `i` of a payload or entry. -/
def byteAt (p : List Byte) (i : Nat) : Byte := p.getD i 0

/-- The number in `n` bytes from byte `i`, high byte first. -/
def numAt (p : List Byte) (i n : Nat) : Nat := ((p.drop i).take n).foldl (fun a b => 256 * a + b.toNat) 0

/-- The signed 16-bit number in two bytes from byte `i`. -/
def intAt (p : List Byte) (i : Nat) : Int := (BitVec.ofNat 16 (numAt p i 2)).toInt

/-- The field of `width` bits from bit `lo` of a byte. -/
def fieldOf (b : Byte) (lo width : Nat) : Nat := b.toNat / 2 ^ lo % 2 ^ width

/-- A number in `n` bytes, high byte first, modulo 256^n. -/
def bytesOf : Nat → Nat → List Byte
  | 0, _ => []
  | n + 1, v => BitVec.ofNat 8 (v / 256 ^ n) :: bytesOf n v

/-- A signed number in two bytes, two's complement. -/
def intBytes (v : Int) : List Byte := bytesOf 2 (BitVec.ofInt 16 v).toNat

/-- A flag as the value of bit `k`. -/
def bit (b : Bool) (k : Nat) : Nat := if b then 2 ^ k else 0

/-- The code of an absent or unknown temperature. -/
def absentTemp : Int := -32768

/-- A temperature that can be absent, in two bytes. -/
def tempBytes (t : Option Int) : List Byte := intBytes (t.getD absentTemp)

/-- The source codes. -/
def sourceCode : Source → Nat
  | .probe => 0
  | .altProbe => 1
  | .peer => 2
  | .held => 3
  | .default => 4

/-- The code of a source that can be none. -/
def sourceCodeOpt : Option Source → Nat
  | some x => sourceCode x
  | none => 7

/-- The source of a code, none for every code that names no source. -/
def sourceOf : Nat → Option Source
  | 0 => some .probe
  | 1 => some .altProbe
  | 2 => some .peer
  | 3 => some .held
  | 4 => some .default
  | _ => none

/-- The wheel state code of a wheel. -/
def wheelState (w : WheelData) : Nat :=
  if w.notWeighed then 3 else if w.disagree then 2 else if w.clipped then 1 else 0

/-- The sum of bytes modulo 256. -/
def byteSum (l : List Byte) : Byte := l.foldl (· + ·) 0

/-! ### The CRC of a frame (R134) -/

/-- One bit enters the register. -/
def crcBit (r : BitVec 16) (b : Bool) : BitVec 16 := if r.msb != b then (r <<< 1) ^^^ 0x1021#16 else r <<< 1

/-- One byte enters the register, most significant bit first. -/
def crcByte (r : BitVec 16) (x : Byte) : BitVec 16 :=
  [7, 6, 5, 4, 3, 2, 1, 0].foldl (fun r k => crcBit r (x.getLsbD k)) r

/-- The register run over bytes from a start value. -/
def crcRun (r : BitVec 16) (bs : List Byte) : BitVec 16 := bs.foldl crcByte r

/-- The CRC of the bytes of a frame from the kind through the last payload byte. -/
def crc16 (bs : List Byte) : BitVec 16 := crcRun 0xFFFF#16 bs

/-- The bytes of a frame that its CRC covers: kind, source, destination, payload length, payload (R133). -/
def coveredBytes (kind source dest : Byte) (payload : List Byte) : List Byte :=
  kind :: source :: dest :: BitVec.ofNat 8 payload.length :: payload

/-- All bytes of a frame on the line, with the two CRC bytes, high byte first. -/
def wireBytes (kind source dest : Byte) (payload : List Byte) : List Byte :=
  coveredBytes kind source dest payload ++ bytesOf 2 (crc16 (coveredBytes kind source dest payload)).toNat

/-! ### The sample set (R3, R168) -/

/-- The set passes its check: the eight value bytes, the tag byte and the set check sum to 0 modulo 256, and no tag bit
beyond bit 3 is set. -/
def setPasses (v0 v1 v2 v3 : BitVec 16) (tags check : Byte) : Bool :=
  let vs := [v0, v1, v2, v3].flatMap fun v => bytesOf 2 v.toNat
  decide (byteSum (vs ++ [tags, check]) = 0) && decide (fieldOf tags 4 4 = 0)

/-! ### The probe reading (R169) -/

/-- The reading passes its check. -/
def readingPasses (head : Byte) (value : BitVec 16) (check : Byte) : Bool :=
  decide (byteSum (head :: bytesOf 2 value.toNat ++ [check]) = 0) && decide (fieldOf head 4 2 ≠ 3)
    && decide (fieldOf head 1 3 = 0) && decide (fieldOf head 6 2 = 0)

/-- The probe a reading is of. -/
def readingProbe (head : Byte) : ProbeIx := if head.getLsbD 0 then .p1 else .p0

/-- The status of a reading is OK, not OPEN or SHORT. -/
def readingOk (head : Byte) : Bool := decide (fieldOf head 4 2 = 0)

/-! ### Received beacons and half axles (R170, R171, R175) -/

/-- A beacon payload is malformed: its length differs from 18, its station state field holds 3, or its source code is
5 to 7. -/
def beaconMalformed (p : List Byte) : Bool :=
  decide (p.length ≠ 18) || decide (fieldOf (byteAt p 2) 5 2 = 3) || decide (5 ≤ fieldOf (byteAt p 3) 4 3)

/-- The source a well-formed beacon carries. -/
def beaconSource (p : List Byte) : Source := (sourceOf (fieldOf (byteAt p 3) 4 3)).getD .default

/-- A HALF_AXLE payload is malformed: its length differs from 13, its path code is not 0 or 1, its record speed lies
outside 50..2500, or its source code is 5 or 6. -/
def halfMalformed (p : List Byte) : Bool :=
  decide (p.length ≠ 13) || decide (1 < (byteAt p 1).toNat)
    || !(decide (50 ≤ numAt p 6 2) && decide (numAt p 6 2 ≤ 2500))
    || decide (fieldOf (byteAt p 8) 4 3 = 5) || decide (fieldOf (byteAt p 8) 4 3 = 6)

/-- The wheel a HALF_AXLE carries. -/
def halfWheel (p : List Byte) : WheelData :=
  let code := fieldOf (byteAt p 8) 0 2
  let source := sourceOf (fieldOf (byteAt p 8) 4 3)
  { load := if code = 3 then none else some (numAt p 9 2)
    clipped := decide (code = 1)
    disagree := decide (code = 2)
    notWeighed := decide (code = 3)
    uncalibrated := (byteAt p 8).getLsbD 2
    temp := if source.isNone || decide (intAt p 11 = absentTemp) then none else some (intAt p 11)
    source := source }

/-! ### Table entries (R155 to R157, R176) -/

/-- Bytes of one entry of a stored table. -/
def entryLength (t : Nat) : Nat :=
  if t = 0 then 20 else if t = 1 then 3 else if t ≤ 3 then 4 else if t = 4 then 9 else 9 + 2 * (t - 4)

/-- Capacity of a stored table, in entries (R153). -/
def tableCap (t : Nat) : Nat :=
  if t = 0 then 1 else if t = 1 then 4 else if t ≤ 3 then 8 else if t = 4 then 1 else 12

/-- A number lies in a range, ends included. -/
def inRange (lo hi n : Nat) : Bool := decide (lo ≤ n) && decide (n ≤ hi)

/-- A temperature lies in −400..+800. -/
def tempInRange (t : Int) : Bool := decide (tempMin ≤ t) && decide (t ≤ tempMax)

/-- The channel map of SETUP byte 2. -/
def mapOf (b : Byte) : Quad (BitVec 2) :=
  ⟨b.extractLsb' 0 2, b.extractLsb' 2 2, b.extractLsb' 4 2, b.extractLsb' 6 2⟩

/-- The map names each input once (R155). -/
def mapOk (m : Quad (BitVec 2)) : Bool := decide ([m.al, m.ar, m.bl, m.br].Nodup)

/-- The settings a SETUP record holds. -/
def setupOf (e : List Byte) : Setup :=
  { spacing := numAt e 0 2
    map := mapOf (byteAt e 2)
    swapA := (byteAt e 3).getLsbD 0
    swapB := (byteAt e 3).getLsbD 1
    presenceUsed := (byteAt e 3).getLsbD 2
    assigned := ⟨(byteAt e 3).getLsbD 3, (byteAt e 3).getLsbD 4⟩
    weighing := if fieldOf (byteAt e 3) 5 2 = 0 then some .p0 else if fieldOf (byteAt e 3) 5 2 = 1 then some .p1 else none
    tOn := numAt e 4 2
    tOff := numAt e 6 2
    q := numAt e 8 1
    dmax := numAt e 9 2
    maxSpacing := numAt e 11 2
    skew := numAt e 13 2
    group := numAt e 15 1
    defaultTemp := intAt e 16
    interval := numAt e 18 1
    clearCount := numAt e 19 1 }

/-- The weighing probe is one of the assigned probes, or none when both are ABSENT (R155). -/
def weighingOk (u : Setup) : Bool :=
  match u.weighing with
  | some p => u.assigned.get p
  | none => !u.assigned.p0 && !u.assigned.p1

/-- A SETUP entry passes the tests of R155 and R176. -/
def setupOk (e : List Byte) : Bool :=
  let u := setupOf e
  inRange 1000 6000 u.spacing && mapOk u.map && inRange 16 8192 u.tOn && inRange 8 (u.tOn - 1) u.tOff && inRange 1 15 u.q
    && inRange 16 8000 u.dmax && inRange 2000 20000 u.maxSpacing && inRange 50 1000 u.skew
    && !(byteAt e 3).getLsbD 7 && decide (fieldOf (byteAt e 3) 5 2 ≠ 2) && weighingOk u
    && inRange 0 3 u.group && tempInRange u.defaultTemp

/-- The gain K of a GAIN entry. -/
def gainOf (e : List Byte) : Nat := numAt e 0 3

/-- Bound and factor of a BAND entry. -/
def bandOf (e : List Byte) : Nat × Nat := (numAt e 0 2, numAt e 2 2)

/-- Temperature and factor of a TEMP entry. -/
def tempPointOf (e : List Byte) : Int × Nat := (intAt e 0, numAt e 2 2)

/-- The SCREEN record. -/
def screenOf (e : List Byte) : ScreenRec :=
  { speedLow := numAt e 0 2, speedHigh := numAt e 2 2, tempLow := intAt e 4, tempHigh := intAt e 6, limit := numAt e 8 1 }

/-- A SCREEN entry passes the tests of R156. -/
def screenOk (e : List Byte) : Bool :=
  let r := screenOf e
  inRange 50 2500 r.speedLow && inRange 50 2500 r.speedHigh && decide (r.speedLow ≤ r.speedHigh)
    && tempInRange r.tempLow && tempInRange r.tempHigh && decide (r.tempLow ≤ r.tempHigh) && inRange 5 50 r.limit

/-- A class entry with `gaps` gap ranges. -/
def classOf (gaps : Nat) (e : List Byte) : ClassEntry :=
  { code := numAt e 0 1
    grossLow := numAt e 1 2
    grossHigh := numAt e 3 2
    axleLimit := numAt e 5 2
    grossLimit := numAt e 7 2
    gaps := (List.range gaps).map fun k => (numAt e (9 + 2 * k) 1, numAt e (10 + 2 * k) 1) }

/-- A class entry passes the tests of R157. -/
def classOk (gaps : Nat) (e : List Byte) : Bool :=
  let c := classOf gaps e
  inRange 1 14 c.code && c.gaps.all (fun g => decide (g.1 ≤ g.2)) && decide (c.grossLow ≤ c.grossHigh)
    && decide (c.grossHigh ≤ 1000) && inRange 1 1000 c.axleLimit && inRange 1 1000 c.grossLimit

/-- The number of gap ranges of an entry of class-page table t: one fewer than the axles it serves, t − 3 (R104). -/
def gapsOf (t : Nat) : Nat := t - 4

/-- An entry for table t passes test 7 of R161. -/
def entryOk (t : Nat) (e : List Byte) : Bool :=
  decide (e.length = entryLength t) &&
    (if t = 0 then setupOk e
     else if t = 1 then inRange 1 16777215 (gainOf e)
     else if t = 2 then inRange 50 2500 (bandOf e).1 && inRange 512 2047 (bandOf e).2
     else if t = 3 then tempInRange (tempPointOf e).1 && inRange 512 2047 (tempPointOf e).2
     else if t = 4 then screenOk e
     else classOk (gapsOf t) e)

/-- The value that the order of BAND and TEMP is kept on (R156). -/
def orderKey (t : Nat) (e : List Byte) : Int := if t = 2 then (bandOf e).1 else (tempPointOf e).1

/-- An entry written at an index keeps BAND and TEMP strictly ascending (test 8 of R161); the other tables have no order. -/
def orderOk (t : Nat) (entries : List (List Byte)) (index : Nat) (e : List Byte) : Bool :=
  if t = 2 ∨ t = 3 then
    (decide (index = 0) || decide (orderKey t (entries.getD (index - 1) []) < orderKey t e))
      && (decide (entries.length ≤ index + 1) || decide (orderKey t e < orderKey t (entries.getD (index + 1) [])))
  else true

/-- The stored bytes of a table: its count as one byte, then its entries (R153). -/
def storedBytes (count : Nat) (entries : List (List Byte)) : List Byte := BitVec.ofNat 8 count :: entries.flatten

/-- The check byte that makes the stored bytes sum to 0 modulo 256 (R154). -/
def checkByte (count : Nat) (entries : List (List Byte)) : Byte := -byteSum (storedBytes count entries)

/-- A table fails its check in START (R154). -/
def failsCheck (t : Nat) (x : Stored) : Bool :=
  x.openMark || (decide (1 ≤ x.count) &&
    (decide (tableCap t < x.count) || decide (byteSum (storedBytes x.count x.entries) + x.check ≠ 0)))

end Sys2Proof.Machine
end

