-- ==== Sys2Proof/Machine/Flags.lean ====
section
/-! DEFINITION. The conditions that follow from the state: which blocks work, the lane claims and neighbours, the tables
present and the calibrated flag's condition, the clear lane, and the pending notices. -/

namespace Sys2Proof.Machine

open Sys2Proof

/-! ### Station states (R181 to R183) -/

/-- The station is in SELFTEST, SETTLING or RUN: strobing, link, temperature unit and commands are active (R183). -/
def working (s : State) : Bool :=
  match s.ctl.station with
  | .selftest | .settling | .run => true
  | .inReset _ | .start => false

/-- The station has left reset: it is in START or a later state (R180, R181). -/
def outOfReset (s : State) : Bool :=
  match s.ctl.station with
  | .inReset _ => false
  | .start | .selftest | .settling | .run => true

/-- The station is in RUN, where alone it forms axles and vehicles. -/
def inRun (s : State) : Bool := decide (s.ctl.station = .run)

/-- Own station number (R181). -/
def ownNumber (s : State) : Byte := s.straps.station.setWidth 8

/-- Own lane 1..8 (R181). -/
def ownLane (s : State) : Nat := s.straps.laneStrap.toNat + 1

/-! ### Lane claims and neighbours (R68, R129, R130) -/

/-- A peer claims a lane: the lane its last beacon carried, when that is 1..8 and the peer is not LOST (R129). -/
def claims (lane : Nat) (p : Peer) : Bool := decide (p.lane.toNat = lane) && inRange 1 8 lane && decide (p.state ≠ .lost)

/-- The peers that claim a lane. -/
def claimants (s : State) (lane : Nat) : List Peer := s.peers.filter (claims lane)

/-- LANE_CONFLICT's condition (R130). -/
def laneConflict (s : State) : Bool :=
  !(claimants s (ownLane s)).isEmpty
    || (s.straps.leftNeighbour && decide (2 ≤ (claimants s (ownLane s - 1)).length))
    || (s.straps.rightNeighbour && decide (2 ≤ (claimants s (ownLane s + 1)).length))

/-- The one peer that claims a lane beyond an edge, when exactly one does and none claims own lane (R68). -/
def soleClaimant (s : State) (lane : Nat) : Option Peer :=
  if (claimants s (ownLane s)).isEmpty then
    match claimants s lane with
    | [p] => some p
    | _ => none
  else none

/-- The neighbour on the L edge, when it is usable for the ceder (R68). -/
def cederNeighbour (s : State) : Option Peer :=
  if s.straps.leftNeighbour then soleClaimant s (ownLane s - 1) else none

/-- The neighbour on the R edge, when it is usable for the owner (R68): it must be ALIGNED. -/
def ownerNeighbour (s : State) : Option Peer :=
  if s.straps.rightNeighbour then (soleClaimant s (ownLane s + 1)).filter fun p => decide (p.state = .aligned) else none

/-! ### Tables present and the calibrated flag (R153, R159) -/

/-- The stored table of an id. -/
def storedTable (c : CalMemory) (t : Nat) : Stored := c.tables.getD t .blank

/-- A table is present when its count is 1 or more and it has not failed its check (R153). -/
def tablePresent (c : CalMemory) (t : Nat) : Bool := decide (1 ≤ (storedTable c t).count) && !c.failed.contains t

/-- The entries of a table, none when it is absent: the count of R162 is their number. -/
def tableEntries (c : CalMemory) (t : Nat) : List (List Byte) :=
  if tablePresent c t then (storedTable c t).entries else []

/-- The condition of the calibrated flag (R159). -/
def calibratedNow (c : CalMemory) : Bool :=
  tablePresent c 0 && tablePresent c 1 && decide ((storedTable c 1).count = 4) && tablePresent c 2 && tablePresent c 3

/-! ### The clear lane (R101) -/

/-- No entry is OPEN or CLOSING, and presence is VACANT, not used or STUCK. -/
def laneClear (s : State) : Bool :=
  s.veh.entries.all (fun v => decide (v.state ≠ .opened) && decide (v.state ≠ .closing)) &&
    (match s.veh.presence with
     | none | some .vacant | some .stuck => true
     | some (.occupied _) | some (.vacating _) => false)

/-! ### Probes -/

/-- The filtered value of a probe: the mean of its ring, absent when the ring is empty (R44, R45). -/
def filtered (p : Probe) : Option Int := if p.ring.isEmpty then none else some (meanInt p.ring)

/-- PROBE_FAULT's condition: the weighing probe is FAULT or STALE (R49). -/
def probeFault (s : State) : Bool :=
  match s.setup.weighing with
  | some i => decide ((s.temp.probes.get i).state = .fault) || decide ((s.temp.probes.get i).state = .stale)
  | none => false

/-! ### Notices (R184) -/

/-- A detector is in FAULT. -/
def Detector.inFault (d : Detector) : Bool := decide (d.state = .fault)

/-- A kind of notice is pending. Every reset empties the set, and TEMP_DEFAULT is pending again from START onward. -/
def isPending (s : State) : Notice → Bool
  | .calCheck => !s.cal.failed.isEmpty
  | .channelFault => s.det.al.inFault || s.det.ar.inFault || s.det.bl.inFault || s.det.br.inFault
  | .linkFault => s.raised.linkFault
  | .duplicateId => s.raised.duplicateId
  | .laneConflict => laneConflict s
  | .probeFault => probeFault s
  | .tempDefault => outOfReset s && decide (s.temp.source = .default)
  | .peerDrift => s.peers.any fun p => decide (p.state = .drifting)
  | .queueLoss => s.raised.queueLoss
  | .mergeConflict => s.raised.mergeConflict
  | .peerOverflow => s.raised.peerOverflow
  | .presenceStuck => decide (s.veh.presence = some .stuck)

/-- The notice kinds, highest priority first. -/
def allNotices : List Notice :=
  [.calCheck, .channelFault, .linkFault, .duplicateId, .laneConflict, .probeFault, .tempDefault, .peerDrift, .queueLoss,
   .mergeConflict, .peerOverflow, .presenceStuck]

/-- The priority number of a notice. -/
def priority : Notice → Nat
  | .calCheck => 1
  | .channelFault => 2
  | .linkFault => 3
  | .duplicateId => 4
  | .laneConflict => 5
  | .probeFault => 6
  | .tempDefault => 7
  | .peerDrift => 8
  | .queueLoss => 9
  | .mergeConflict => 10
  | .peerOverflow => 11
  | .presenceStuck => 12

/-- The kinds that clear on report. -/
def clearsOnReport : Notice → Bool
  | .linkFault | .duplicateId | .queueLoss | .mergeConflict | .peerOverflow => true
  | .calCheck | .channelFault | .laneConflict | .probeFault | .tempDefault | .peerDrift | .presenceStuck => false

/-- The notices a beacon formed now carries: the four highest in priority among those pending (R119, R185). -/
def carriedNotices (s : State) : List Notice := (allNotices.filter (isPending s)).take 4

/-- Pending notices with one kind set or cleared; a condition kind has no mark of its own. -/
def Raised.put (r : Raised) (n : Notice) (b : Bool) : Raised :=
  match n with
  | .linkFault => { r with linkFault := b }
  | .duplicateId => { r with duplicateId := b }
  | .queueLoss => { r with queueLoss := b }
  | .mergeConflict => { r with mergeConflict := b }
  | .peerOverflow => { r with peerOverflow := b }
  | .calCheck | .channelFault | .laneConflict | .probeFault | .tempDefault | .peerDrift | .presenceStuck => r

end Sys2Proof.Machine
end

