-- ==== Sys2Proof/Machine/Frames.lean ====
section
/-! DEFINITION. The payloads of the frames the station sends, formed from the state (chapter 10), and the order the frames
are sent in. -/

namespace Sys2Proof.Machine

open Sys2Proof

/-! ### Kinds, classes and order (R138, R147, R170) -/

/-- The kind code. -/
def kindCode : FrameKind → Byte
  | .overload => 0x01
  | .mergeTake => 0x02
  | .mergeCede => 0x03
  | .mergeRefuse => 0x04
  | .halfAxle => 0x10
  | .vehicle => 0x11
  | .reply => 0x12
  | .tableData => 0x13
  | .beacon => 0x20
  | .start => 0x21
  | .temperature => 0x22
  | .laneClear => 0x23

/-- The class of a frame. -/
def frameClass : FrameKind → Nat
  | .overload | .mergeTake | .mergeCede | .mergeRefuse => 0
  | .halfAxle | .vehicle | .reply | .tableData => 1
  | .beacon | .start | .temperature | .laneClear => 2

/-- The rank of a queued frame in transmit order: OVERLOAD, the other class-0 frames, class 1, class 2. -/
def txRank : FrameKind → Nat
  | .overload => 0
  | k => frameClass k + 1

/-- A frame as it is offered: not yet collided, no draw, not in transmission. -/
def mkFrame (kind : FrameKind) (dest : Byte) (payload : List Byte) : TxFrame :=
  { kind := kind, dest := dest, payload := payload, vehicle := none, clears := [], restartReply := false, collisions := 0,
    backoff := 0, sending := false }

/-- The broadcast destination. -/
def broadcast : Byte := 255

/-! ### Spacings (R88, R106) -/

/-- The spacing of two axles in mm. -/
def spacing (a b : Axle) : Nat :=
  min spacingMax (roundHalfUp ((a.speed + b.speed) * (sdiff b.time a.time).natAbs) 32000)

/-- The spacing list of an axle list. -/
def spacings : List Axle → List Nat
  | a :: b :: l => spacing a b :: spacings (b :: l)
  | _ => []

/-- A spacing in dm, rounded half up. -/
def inDm (mm : Nat) : Nat := roundHalfUp mm 100

/-! ### The VEHICLE frame (R172, R173) -/

/-- Outcome fields of an entry that has not been classed; no VEHICLE frame is formed from one (R98, R99). -/
def Classed.blank : Classed :=
  { total := 0, cls := 0, entry := none, gross := 0, incomplete := false, speed := 0, worst := none, firstTemp := none,
    screening := .clear, exceeding := [], grossExceeds := false, notice := .none }

/-- The close cause code. -/
def causeCode : Option CloseCause → Nat
  | none | some .gap => 0
  | some .vacancy => 1
  | some .spacing => 2
  | some .speed => 3
  | some .axleLimit => 4

/-- The order of the condition that a reason belongs to (R111). -/
def reasonCode : Reason → Nat
  | .notLocked => 1
  | .notCalibrated => 2
  | .screenOff => 3
  | .cls => 4
  | .speedBand => 5
  | .tempSource => 6
  | .tempBand => 7
  | .part => 8
  | .unconfirmed => 9
  | .clipped => 10
  | .disagree => 11
  | .notWeighed => 12
  | .chain => 13

/-- The code of the screening outcome together with the overload notice state. -/
def outcomeCode (c : Classed) : Nat :=
  match c.screening with
  | .clear => 0
  | .notScreened _ => 1
  | .overload =>
    match c.notice with
    | .slot => 2
    | .queued => 3
    | .dropped | .none => 4

/-- The reason code, 0 for outcomes other than NOT_SCREENED. -/
def outcomeReason (c : Classed) : Nat :=
  match c.screening with
  | .notScreened r => reasonCode r
  | .clear | .overload => 0

/-- The chain index: lead count / 12, or 31 when the lead count is 255. -/
def chainIndex (lead : Nat) : Nat := if lead = leadMax then 31 else lead / 12

/-- The eleven bits of the first-axle temperature: value + 400, 2047 for unknown, a free value outside −400..+800. -/
def vehicleTempField : Option Int → BitVec 11
  | none => 2047
  | some t => if tempInRange t then BitVec.ofNat 11 (t + 400).toNat else Config.vehicleTempField t

/-- The nine bytes of the fixed part. -/
def vehicleFixed (v : Vehicle) (c : Classed) : List Byte :=
  bytesOf 2 v.number.toNat ++
  [BitVec.ofNat 8 (v.axles.length % 16 + 16 * causeCode v.cause + bit v.truncated 7),
   BitVec.ofNat 8 (c.cls % 16 + 16 * c.entry.getD 15),
   BitVec.ofNat 8 (outcomeCode c + 8 * outcomeReason c + bit c.grossExceeds 7),
   BitVec.ofNat 8 (sourceCodeOpt c.worst + 8 * chainIndex v.lead)] ++
  bytesOf 3 (c.speed % 4096 + 4096 * (vehicleTempField c.firstTemp).toNat + bit v.uncalibrated 23)

/-- The form code of an axle record. No axle of a classed vehicle is PENDING (R98). -/
def axleForm (a : Axle) : Nat :=
  match a.kind with
  | .full => 0
  | .merged => if a.unconfirmed then 6 else 5
  | .part | .pending => (if a.left.isSome then 1 else 2) + (if a.ref.isSome then 2 else 0)

/-- The load bytes of a wheel: two when there is a wheel that is not NOT_WEIGHED. -/
def loadBytes : Option WheelData → List Byte
  | some w => if w.notWeighed then [] else bytesOf 2 (w.load.getD 0)
  | none => []

/-- One axle record; `exceeds` marks an axle of the exceeding list. -/
def axleRecord (a : Axle) (exceeds : Bool) : List Byte :=
  BitVec.ofNat 8 (axleForm a + 8 * (a.left.map wheelState).getD 0 + 32 * (a.right.map wheelState).getD 0 + bit exceeds 7) ::
    ((if axleForm a = 3 ∨ axleForm a = 4 then [a.ref.getD 0] else []) ++ loadBytes a.left ++ loadBytes a.right)

/-- The VEHICLE payload of an entry: fixed part, axle records, spacings in dm held at 255. -/
def vehiclePayload (v : Vehicle) : List Byte :=
  let c := v.outcome.getD .blank
  vehicleFixed v c
    ++ (v.axles.zipIdx 1).flatMap (fun a => axleRecord a.1 (c.exceeding.any fun e => decide (e.1 = a.2)))
    ++ (spacings v.axles).map fun m => BitVec.ofNat 8 (min 255 (inDm m))

/-- The VEHICLE frame of an entry. -/
def vehicleFrame (v : Vehicle) : TxFrame :=
  { mkFrame .vehicle Config.vehicleDestination (vehiclePayload v) with vehicle := some v.number }

/-! ### OVERLOAD (R114, R174) -/

/-- The OVERLOAD payload of a classed vehicle. -/
def overloadPayload (lane : Nat) (v : Vehicle) (c : Classed) : List Byte :=
  [BitVec.ofNat 8 lane] ++ bytesOf 2 v.number.toNat ++ bytesOf 4 ((v.axles.head?.map Axle.time).getD 0).toNat
    ++ [BitVec.ofNat 8 (c.cls % 16 + 16 * c.entry.getD 15)] ++ bytesOf 2 c.speed ++ bytesOf 3 c.gross
    ++ [BitVec.ofNat 8 (c.exceeding.length % 16 + bit c.grossExceeds 7)]
    ++ c.exceeding.flatMap fun e => bytesOf 1 e.1 ++ bytesOf 3 e.2

/-! ### HALF_AXLE (R71, R171) -/

/-- The HALF_AXLE payload of a lone wheel of path L. -/
def halfPayload (ref : Byte) (w : OwnWheel) : List Byte :=
  [ref, 0] ++ bytesOf 4 w.time.toNat ++ bytesOf 2 (recordSpeed w.speed)
    ++ [BitVec.ofNat 8 (wheelState w.data + bit w.data.uncalibrated 2 + 16 * sourceCodeOpt w.data.source)]
    ++ bytesOf 2 (if w.data.notWeighed then 0 else w.data.load.getD 0) ++ tempBytes w.data.temp

/-! ### The frames of class 2 (R175) -/

/-- The station state code. The states before SELFTEST form no beacon. -/
def stateCode : StationState → Nat
  | .inReset _ | .start | .selftest => 0
  | .settling => 1
  | .run => 2

/-- The reset cause code. -/
def resetCode : ResetKind → Nat
  | .powerOn => 0
  | .supplyLow => 1
  | .resetLine => 2
  | .linkRestart => 3

/-- The probe state code. -/
def probeCode : ProbeState → Nat
  | .absent => 0
  | .waiting => 1
  | .valid => 2
  | .stale => 3
  | .fault => 4

/-- The code of the weighing probe. -/
def weighingCode : Option ProbeIx → Nat
  | some .p0 => 0
  | some .p1 => 1
  | none => 3

/-- Station number and lane, bytes 0 and 1 of every frame of class 2. -/
def classTwoHead (s : State) : List Byte := [ownNumber s, BitVec.ofNat 8 (ownLane s)]

/-- The self-test findings in two bytes: the failed set as bits 0..12, SAMPLE_PORT_SILENT as bit 15. -/
def findingsBytes (f : Findings) : List Byte :=
  bytesOf 2 (((List.range 13).map fun k => bit (f.failed.contains k) k).sum + bit f.silent 15)

/-- The neighbour flags, bits 0 and 1. -/
def neighbourBits (s : State) : Nat := bit s.straps.leftNeighbour 0 + bit s.straps.rightNeighbour 1

/-- The BEACON payload (R119); its timestamp is written at each transmission start. -/
def beaconPayload (s : State) : List Byte :=
  classTwoHead s ++
  [BitVec.ofNat 8 (neighbourBits s + bit s.cal.calibrated 2 + bit s.cal.lock 3 + bit s.screenOn 4
     + 32 * stateCode s.ctl.station),
   BitVec.ofNat 8 (s.setup.group % 4 + 4 * resetCode s.ctl.resetCause + 16 * sourceCode s.temp.source)] ++
  bytesOf 4 0 ++ intBytes s.temp.value ++ findingsBytes s.ctl.findings ++
  (((carriedNotices s).map fun n => BitVec.ofNat 8 (priority n)) ++ List.replicate 4 0).take 4 ++
  bytesOf 2 s.counters.vehiclesSent

/-- The BEACON frame formed now. -/
def beaconFrame (s : State) : TxFrame :=
  { mkFrame .beacon broadcast (beaconPayload s) with clears := (carriedNotices s).filter clearsOnReport }

/-- A beacon payload with the timestamp of this transmission start (R120). -/
def stampBeacon (p : List Byte) (t : Tick) : List Byte := p.take 4 ++ bytesOf 4 t.toNat ++ p.drop 8

/-- The START report (R182). -/
def startFrame (s : State) : TxFrame :=
  mkFrame .start broadcast
    (classTwoHead s ++
     [BitVec.ofNat 8 (neighbourBits s + bit s.straps.calEnable 2), BitVec.ofNat 8 (resetCode s.ctl.resetCause)] ++
     bytesOf 2 s.ctl.supplyLowCount ++ findingsBytes s.ctl.findings)

/-- The TEMPERATURE report (R59). -/
def temperatureFrame (s : State) : TxFrame :=
  mkFrame .temperature broadcast
    (classTwoHead s ++
     [BitVec.ofNat 8 (probeCode s.temp.probes.p0.state + 8 * probeCode s.temp.probes.p1.state
       + 64 * weighingCode s.setup.weighing)] ++
     tempBytes (filtered s.temp.probes.p0) ++ tempBytes (filtered s.temp.probes.p1) ++ intBytes s.temp.value ++
     [BitVec.ofNat 8 (sourceCode s.temp.source)] ++ intBytes s.temp.least ++ intBytes s.temp.greatest ++
     bytesOf 2 s.temp.goodReadings)

/-- The number of entries in READY or QUEUED (R102). -/
def readyCount (s : State) : Nat :=
  (s.veh.entries.filter fun v => decide (v.state = .ready) || decide (v.state = .queued)).length

/-- The LANE_CLEAR frame (R102). The frame in run rises from 1 as the run count falls from the clear count. -/
def laneClearFrame (s : State) : TxFrame :=
  mkFrame .laneClear broadcast
    (classTwoHead s ++ bytesOf 1 (s.setup.clearCount - s.veh.runCount + 1) ++
     bytesOf 2 ((s.veh.lastOpened.getD 0).toNat) ++
     [BitVec.ofNat 8 (readyCount s % 16 + bit s.veh.lastOpened.isSome 7)] ++ bytesOf 2 s.counters.vehiclesSent)

/-! ### Replies (R176, R178) -/

/-- The outcomes a REPLY carries. -/
inductive ReplyCode | done | locked | busy | range | field | order | absent | notAllowed
deriving DecidableEq, Repr

/-- The code of a reply outcome. -/
def replyCode : ReplyCode → Byte
  | .done => 0
  | .locked => 1
  | .busy => 2
  | .range => 3
  | .field => 4
  | .order => 5
  | .absent => 6
  | .notAllowed => 7

/-- The table byte of a REPLY to a command that names no table. -/
def noTable : Byte := 255

/-- A REPLY to the source of a command. -/
def replyFrame (dst kind : Byte) (code : ReplyCode) (table : Byte) : TxFrame :=
  mkFrame .reply dst [kind, replyCode code, table]

/-- A TABLE_DATA frame: table id, index, a byte whose bit 0 marks the last frame of the answer, and the entry. -/
def tableDataFrame (dst : Byte) (table index : Nat) (last : Bool) (entry : List Byte) : TxFrame :=
  mkFrame .tableData dst (bytesOf 1 table ++ bytesOf 1 index ++ bytesOf 1 (bit last 0) ++ entry)

end Sys2Proof.Machine
end

