-- ==== Sys2Proof/Machine/Ops.lean ====
section
/-! DEFINITION. The named operations every block uses: counters and notices, the admission of frames (R147 to R150), the
offers of READY vehicles (R99), the freeing of transmit places, and the delivery of received frames with their replies
(R137, R177, R178). -/

namespace Sys2Proof.Machine

open Sys2Proof

/-! ### Counters and notices -/

/-- The eighteen counters of table 13, by name (R157). -/
inductive Counter
  | vehiclesSent | axlesFormed | orphanA | orphanB | weighLoss | vehicleLoss | mergeFull | halvesDropped | mergesTaken
  | mergesCeded | mergeConflict | unconfirmed | cededWhole | rxLoss | crcFailures | txDrop | collisions | abandoned
deriving DecidableEq, Repr

/-- One counter raised by one (R186). -/
def Counters.bump (c : Counters) : Counter → Counters
  | .vehiclesSent => { c with vehiclesSent := satInc c.vehiclesSent }
  | .axlesFormed => { c with axlesFormed := satInc c.axlesFormed }
  | .orphanA => { c with orphanA := satInc c.orphanA }
  | .orphanB => { c with orphanB := satInc c.orphanB }
  | .weighLoss => { c with weighLoss := satInc c.weighLoss }
  | .vehicleLoss => { c with vehicleLoss := satInc c.vehicleLoss }
  | .mergeFull => { c with mergeFull := satInc c.mergeFull }
  | .halvesDropped => { c with halvesDropped := satInc c.halvesDropped }
  | .mergesTaken => { c with mergesTaken := satInc c.mergesTaken }
  | .mergesCeded => { c with mergesCeded := satInc c.mergesCeded }
  | .mergeConflict => { c with mergeConflict := satInc c.mergeConflict }
  | .unconfirmed => { c with unconfirmed := satInc c.unconfirmed }
  | .cededWhole => { c with cededWhole := satInc c.cededWhole }
  | .rxLoss => { c with rxLoss := satInc c.rxLoss }
  | .crcFailures => { c with crcFailures := satInc c.crcFailures }
  | .txDrop => { c with txDrop := satInc c.txDrop }
  | .collisions => { c with collisions := satInc c.collisions }
  | .abandoned => { c with abandoned := satInc c.abandoned }

/-- The counter values in the order of table 13 (R157). -/
def Counters.values (c : Counters) : List Nat :=
  [c.vehiclesSent, c.axlesFormed, c.orphanA, c.orphanB, c.weighLoss, c.vehicleLoss, c.mergeFull, c.halvesDropped,
   c.mergesTaken, c.mergesCeded, c.mergeConflict, c.unconfirmed, c.cededWhole, c.rxLoss, c.crcFailures, c.txDrop,
   c.collisions, c.abandoned]

/-- The station with one counter raised by one. -/
def bump (k : Counter) (s : State) : State := s.withCounters (s.counters.bump k)

/-- A counter raised once for each of `n` events. -/
def bumpTimes (k : Counter) : Nat → State → State
  | 0, s => s
  | n + 1, s => bumpTimes k n (bump k s)

/-- A notice raised (R184). A beacon formed before this raise does not clear it on completion (R185). -/
def raise (n : Notice) (s : State) : State :=
  (s.withRaised (s.raised.put n true)).withLink
    { s.link with queue := s.link.queue.map fun f => { f with clears := f.clears.filter fun m => decide (m ≠ n) } }

/-- MERGE_CONFLICT is counted and raised (R83). -/
def mergeConflict (s : State) : State := raise .mergeConflict (bump .mergeConflict s)

/-- A half made PARTIAL for want of a merge-table entry or a transmit place: merge-table full and QUEUE_LOSS (R83). -/
def mergeFull (s : State) : State := raise .queueLoss (bump .mergeFull s)

/-- A frame lost at the transmit queue: TX_DROP and QUEUE_LOSS (R149, R150). -/
def txDrop (s : State) : State := raise .queueLoss (bump .txDrop s)

/-! ### The transmit queue (R147 to R150) -/

/-- The station with its transmit queue replaced. -/
def withQueue (s : State) (q : List TxFrame) : State := s.withLink { s.link with queue := q }

/-- The station with its immediate slot replaced. -/
def withImmediate (s : State) (f : Option TxFrame) : State := s.withLink { s.link with immediate := f }

/-- A place of the transmit queue is free. -/
def placeFree (s : State) : Bool := decide (s.link.queue.length < txCap)

/-- A frame takes a place of the transmit queue. -/
def takePlace (f : TxFrame) (s : State) : State := withQueue s (s.link.queue ++ [f])

/-- A frame that displaces nothing is admitted when a place is free, and dropped otherwise (R150). -/
def offerPlain (f : TxFrame) (s : State) : State × Bool :=
  if placeFree s then (takePlace f s, true) else (txDrop s, false)

/-- A beacon that waits unsent in the queue. -/
def beaconWaiting (f : TxFrame) : Bool := decide (f.kind = .beacon) && !f.sending

/-- A beacon replaces an earlier one that waits in the queue, in its place, and takes over its age (assumption 36); otherwise
it is offered like any frame of class 2 (R120, R150). -/
def offerBeacon (f : TxFrame) (s : State) : State :=
  if s.link.queue.any beaconWaiting then withQueue s (changeFirst beaconWaiting (fun _ => f) s.link.queue)
  else (offerPlain f s).1

/-- A frame of class 2 that can be displaced. -/
def classTwoWaiting (f : TxFrame) : Bool := decide (frameClass f.kind = 2) && !f.sending

/-- A VEHICLE frame that can be displaced. -/
def vehicleWaiting (f : TxFrame) : Bool := decide (f.kind = .vehicle) && !f.sending

/-- The vehicle entry of a number changed. -/
def changeVehicle (number : BitVec 16) (g : Vehicle → Vehicle) (s : State) : State :=
  s.withVeh { s.veh with entries := s.veh.entries.map fun v => if v.number = number then g v else v }

/-- The entry whose VEHICLE frame is displaced or abandoned returns from QUEUED to READY (R99). -/
def returnToReady (f : TxFrame) (s : State) : State :=
  match f.vehicle with
  | some number => changeVehicle number (fun v => { v with state := .ready }) s
  | none => s

/-- A class-0 frame or a HALF_AXLE is admitted by R149: to a free place, in place of the oldest frame of class 2, or, for
class 0, in place of the newest VEHICLE frame, whose entry returns to READY; else it is refused. The oldest frame is the one
whose place comes first, so that a beacon is as old as the one it replaced: DESIGN CHOICE, assumption 36. -/
def offerUrgent (f : TxFrame) (s : State) : State × Bool :=
  if placeFree s then (takePlace f s, true)
  else if s.link.queue.any classTwoWaiting then
    (takePlace f (txDrop (withQueue s (dropFirst classTwoWaiting s.link.queue))), true)
  else if frameClass f.kind = 0 then
    match s.link.queue.reverse.find? vehicleWaiting with
    | some v => (takePlace f (returnToReady v (withQueue s (dropLast vehicleWaiting s.link.queue))), true)
    | none => (txDrop s, false)
  else (s, false)

/-- A VEHICLE frame is admitted when at least two places are free, and its entry enters QUEUED (R148). -/
def admitVehicle (v : Vehicle) (s : State) : State :=
  changeVehicle v.number (fun w => { w with state := .queued }) (takePlace (vehicleFrame v) s)

/-- At least two places of the transmit queue are free. -/
def twoFree (s : State) : Bool := decide (s.link.queue.length + 2 ≤ txCap)

/-- The entry of a vehicle number. -/
def findVehicle (number : BitVec 16) (s : State) : Option Vehicle :=
  s.veh.entries.find? fun v => decide (v.number = number)

/-- The READY entries of a list of numbers are offered in order, until the first refusal. -/
def offerList : List (BitVec 16) → State → State
  | [], s => s
  | number :: l, s =>
    match findVehicle number s with
    | some v =>
      if v.state = .ready then
        if twoFree s then offerList l (admitVehicle v s) else s
      else offerList l s
    | none => offerList l s

/-- The READY entries are offered in the closing order, oldest first (R99). -/
def offerReady (s : State) : State := offerList s.veh.closingOrder s

/-- A vehicle entry is freed. -/
def freeVehicle (number : BitVec 16) (s : State) : State :=
  s.withVeh { s.veh with
    entries := s.veh.entries.filter fun v => decide (v.number ≠ number)
    closingOrder := s.veh.closingOrder.filter fun n => decide (n ≠ number) }

/-- An OVERLOAD frame in the queue. -/
def isOverload (f : TxFrame) : Bool := decide (f.kind = .overload)

/-- The emptied immediate slot takes the oldest OVERLOAD frame from the queue, whose place is freed and offered to the
READY entries (R146, R147). -/
def refillImmediate (s : State) : State :=
  match takeFirst isOverload s.link.queue with
  | some (f, rest) => offerReady (s.withLink { s.link with immediate := some f, queue := rest })
  | none => s

/-! ### Received frames (R137) and replies (R177, R178) -/

/-- The oldest frame of the receive queue leaves it, when it is due for delivery and of that kind. -/
def deliver (kind : Byte) (s : State) : Option (RxFrame × State) :=
  match s.link.rxQueue with
  | f :: rest =>
    if working s && s.link.due && decide (f.kind = kind) then
      some (f, s.withLink { s.link with rxQueue := rest, due := false })
    else none
  | [] => none

/-- A frame is addressed to the station, not broadcast. Every delivered frame is one or the other (R136). -/
def addressed (f : RxFrame) : Bool := decide (f.dest ≠ broadcast)

/-- A REPLY is offered to the source of a command (R150, R178). -/
def sendReply (dst kind : Byte) (code : ReplyCode) (table : Byte) (s : State) : State :=
  (offerPlain (replyFrame dst kind code table) s).1

/-- A REPLY for an addressed command, none for a broadcast one. -/
def replyTo (f : RxFrame) (code : ReplyCode) (table : Byte) (s : State) : State :=
  if addressed f then sendReply f.source f.kind code table s else s

end Sys2Proof.Machine
end

