-- ==== Sys2Proof/Machine/Access.lean ====
section
/-! DEFINITION. The link controller on the line: reception (R135 to R137), access rounds (R139 to R141), collisions and
backoff (R142 to R145), and completions (R146, R147). -/

namespace Sys2Proof.Machine

open Sys2Proof

/-! ### Reception -/

/-- The kind codes the station consumes (R136). -/
def consumedKinds : List Byte :=
  [0x20, 0x10, 0x02, 0x03, 0x04, 0x30, 0x31, 0x32, 0x33, 0x34, 0x35, 0x36, 0x37, 0x38, 0x39, 0x3A]

/-- The station with its receive path set. -/
def withRxPath (s : State) (p : RxPath) : State := s.withLink { s.link with rxPath := p }

/-- A frame of the station is in transmission (R146). -/
def transmitting (s : State) : Bool :=
  (s.link.immediate.map TxFrame.sending).getD false || s.link.queue.any TxFrame.sending

/-- The stamp of a frame of another device that the receive path is reading. -/
def readingStamp (s : State) : Option Tick :=
  if working s && !transmitting s then
    match s.link.rxPath with
    | .reading t => some t
    | .inactive | .waitQuiet | .idle => none
  else none

/-- A broken frame is dropped and counted; after a driven stop bit or an excessive length the path waits for quiet (R135). -/
def breakFrame (cause : BreakCause) (s : State) : State :=
  bump .crcFailures
    (withRxPath s (match cause with
      | .quietGap => .idle
      | .stopBit | .overLength => .waitQuiet))

/-- FRAME_BROKEN (R135). -/
def execFrameBroken (cause : BreakCause) (s : State) : Host.Outcome State Fault Refusal :=
  match readingStamp s with
  | some _ => .next (breakFrame cause s)
  | none => .next s

/-- A frame that passed its tests is placed in the receive queue, or dropped at a full one (R137). -/
def enqueueRx (f : RxFrame) (s : State) : State :=
  if s.link.rxQueue.length < rxCap then s.withLink { s.link with rxQueue := s.link.rxQueue ++ [f] }
  else raise .queueLoss (bump .rxLoss s)

/-- A complete frame is tested for its CRC, its destination and its kind (R136). -/
def judgeFrame (f : RxFrame) (crc : BitVec 16) (s : State) : State :=
  if crc16 (coveredBytes f.kind f.source f.dest f.payload) ≠ crc then bump .crcFailures s
  else if f.dest ≠ ownNumber s ∧ f.dest ≠ broadcast then s
  else if consumedKinds.contains f.kind then enqueueRx f s
  else s

/-- FRAME_COMPLETE (R136): a payload length above 80 breaks the frame (R135). -/
def execFrameComplete (kind source dest : Byte) (payload : List Byte) (crc : BitVec 16) (s : State) :
    Host.Outcome State Fault Refusal :=
  match readingStamp s with
  | some t =>
    if payloadMax < payload.length then .next (breakFrame .overLength s)
    else
      .next (judgeFrame { kind := kind, source := source, dest := dest, payload := payload, stamp := t } crc
        (withRxPath s .idle))
  | none => .next s

/-- START_BIT_SEEN (R139): on the quiet line it ends the round in progress, and an idle receive path begins a frame. -/
def execStartBitSeen (s : State) : Host.Outcome State Fault Refusal :=
  if working s && !transmitting s then
    match s.link.rxPath with
    | .idle => .next (s.withLink { s.link with round := none, rxPath := .reading s.tick })
    | .waitQuiet => .next (s.withLink { s.link with round := none })
    | .inactive | .reading _ => .next s
  else .next s

/-! ### Access rounds -/

/-- A frame is passed over in transmit order: a VEHICLE frame while the station is held (R151). -/
def passedOver (l : Link) (f : TxFrame) : Bool := decide (f.kind = .vehicle) && l.hold.isSome

/-- A queued frame of a rank that can be the candidate. -/
def ofRank (l : Link) (r : Nat) (f : TxFrame) : Bool := decide (txRank f.kind = r) && !passedOver l f

/-- The rank of the first queued frame in transmit order (R147). -/
def firstRank (l : Link) : Option Nat := [0, 1, 2, 3].find? fun r => l.queue.any (ofRank l r)

/-- The candidate: the frame in the immediate slot, else the first queued frame in transmit order (R139, R147). -/
def candidate (l : Link) : Option TxFrame :=
  match l.immediate with
  | some f => some f
  | none => (firstRank l).bind fun r => l.queue.find? (ofRank l r)

/-- The start slot of a frame (R140). -/
def startSlot (station : BitVec 4) (yielding : Bool) (f : TxFrame) : Nat :=
  (match frameClass f.kind with
   | 0 => station.toNat
   | 1 => 16 + station.toNat
   | _ => 48 + station.toNat)
    + (if yielding && decide (frameClass f.kind ≠ 0) then 16 else 0) + 16 * f.backoff

/-- A frame as its transmission starts at a tick: a beacon takes its timestamp (R120). -/
def startedFrame (t : Tick) (f : TxFrame) : TxFrame :=
  { f with
    sending := true
    payload := if f.kind = .beacon then stampBeacon f.payload t else f.payload }

/-- The candidate starts: the round ends, and the receive path follows the station's own frame (R135, R139). -/
def startCandidate (s : State) : State :=
  let l := { s.link with round := none, rxPath := .reading s.tick }
  match s.link.immediate with
  | some f => s.withLink { l with immediate := some (startedFrame s.tick f) }
  | none =>
    match firstRank s.link with
    | some r => s.withLink { l with queue := changeFirst (ofRank s.link r) (startedFrame s.tick) s.link.queue }
    | none => s.withLink l

/-- The slot that begins: the next of the round in progress, or slot 0 of a new round, which takes the yield flag as it
stands (R139, R141). -/
def nextRound (l : Link) : Round :=
  match l.round with
  | some r => if r.slot + 1 < roundSlots then { r with slot := r.slot + 1 } else { slot := 0, yielding := l.yieldFlag }
  | none => { slot := 0, yielding := l.yieldFlag }

/-- The link controller as a slot begins: the line is quiet, and the yield flag clears at slot 32 (R135, R141). -/
def beginSlot (l : Link) : Link :=
  { l with
    round := some (nextRound l)
    rxPath := .idle
    yieldFlag := if (nextRound l).slot = yieldSlot then false else l.yieldFlag }

/-- The candidate's start slot is the slot that begins. -/
def slotDue (s : State) : Bool :=
  ((candidate s.link).map fun f =>
    decide (startSlot s.straps.station (nextRound s.link).yielding f = (nextRound s.link).slot)).getD false

/-- The line can be quiet: the station works, sends nothing, and its receive path reads no frame. -/
def lineQuiet (s : State) : Bool :=
  working s && !transmitting s &&
    (match s.link.rxPath with
     | .idle | .waitQuiet => true
     | .inactive | .reading _ => false)

/-- SLOT_BEGIN (R139): the next slot of the round, or the first of a new round after a quiet gap of 12 bit times. -/
def execSlotBegin (s : State) : Host.Outcome State Fault Refusal :=
  if lineQuiet s then
    if slotDue s then .next (startCandidate (s.withLink (beginSlot s.link))) else .next (s.withLink (beginSlot s.link))
  else .next s

/-! ### Frames that leave -/

/-- The frame of the station that is in transmission. -/
def sendingFrame (s : State) : Option TxFrame :=
  match s.link.immediate with
  | some f => if f.sending then some f else s.link.queue.find? TxFrame.sending
  | none => s.link.queue.find? TxFrame.sending

/-- The frame in transmission is the one in the immediate slot. -/
def sendingImmediate (s : State) : Bool := (s.link.immediate.map TxFrame.sending).getD false

/-- The frame in transmission leaves its place. -/
def removeSending (s : State) : State :=
  if sendingImmediate s then withImmediate s none else withQueue s (dropFirst TxFrame.sending s.link.queue)

/-- The freed place is put to use: the immediate slot is refilled, or the queue place is offered to READY entries
(R99, R146, R147). -/
def useFreedPlace (immediate : Bool) (s : State) : State := if immediate then refillImmediate s else offerReady s

/-- The frame in transmission changed in its place. -/
def changeSending (g : TxFrame → TxFrame) (s : State) : State :=
  if sendingImmediate s then withImmediate s (s.link.immediate.map g)
  else withQueue s (changeFirst TxFrame.sending g s.link.queue)

/-! ### Collisions (R143 to R145) -/

/-- The backoff generator advances once (R144). -/
def advanceLfsr (r : BitVec 16) : BitVec 16 :=
  let b := ((r.getLsbD 0 ^^ r.getLsbD 2) ^^ r.getLsbD 3) ^^ r.getLsbD 5
  if b then (r >>> 1) ||| 0x8000#16 else r >>> 1

/-- The draw of a frame's k-th collision: the low min(k, 4) bits of the generator (R143). -/
def drawOf (r : BitVec 16) (k : Nat) : Nat := r.toNat % 2 ^ min k 4

/-- The frame is abandoned at its eighth collision (R145). -/
def abandonFrame (f : TxFrame) (s : State) : State :=
  useFreedPlace (sendingImmediate s)
    (returnToReady f (raise .linkFault (bump .abandoned (removeSending s))))

/-- The frame stays in its place with its new count and draw; an earlier beacon is discarded when a newer one waits in the
queue (R143). -/
def keepCollided (f : TxFrame) (s : State) : State :=
  let r := advanceLfsr s.link.lfsr
  let t := s.withLink { s.link with lfsr := r }
  if decide (f.kind = .beacon) && s.link.queue.any beaconWaiting then offerReady (removeSending t)
  else
    changeSending (fun g =>
      { g with collisions := f.collisions + 1, backoff := drawOf r (f.collisions + 1), sending := false }) t

/-- COLLISION (R143). -/
def execCollision (s : State) : Host.Outcome State Fault Refusal :=
  match sendingFrame s with
  | some f =>
    if collisionLimit ≤ f.collisions + 1 then .next (abandonFrame f (bump .collisions s))
    else .next (keepCollided f (bump .collisions s))
  | none => .next s

/-! ### Completion (R146) -/

/-- The notices a completed beacon carried that clear on report cease to be pending (R185). -/
def clearNotices (l : List Notice) (s : State) : State :=
  s.withRaised (l.foldl (fun r n => r.put n false) s.raised)

/-- The vehicle of a completed VEHICLE frame is freed and counted (R99). -/
def vehicleSent (f : TxFrame) (s : State) : State :=
  match f.vehicle with
  | some number => bump .vehiclesSent (freeVehicle number s)
  | none => s

/-- The link after a completion: the receive path drops the station's own frame, the yield flag is set for class 1 and 2,
and the bytes sent are kept (R135, R141, R146). -/
def completedLink (s : State) (f : TxFrame) : Link :=
  { s.link with
    rxPath := .idle
    yieldFlag := s.link.yieldFlag || decide (frameClass f.kind ≠ 0)
    lastSent := wireBytes (kindCode f.kind) (ownNumber s) f.dest f.payload }

/-- A transmission completes: the frame leaves its place, its block is told, and the freed place is put to use. -/
def completeFrame (f : TxFrame) (s : State) : State :=
  let t := removeSending (s.withLink (completedLink s f))
  useFreedPlace (sendingImmediate s) (clearNotices f.clears (vehicleSent f t))

/-- TRANSMISSION_COMPLETE (R146). -/
def execTransmissionComplete (s : State) : Host.Outcome State Fault Refusal :=
  match sendingFrame s with
  | some f => .next (completeFrame f s)
  | none => .next s

end Sys2Proof.Machine
end

