-- ==== Sys2Proof/Machine/Calibration.lean ====
section
/-! DEFINITION. The calibration memory: the check at start, working copies, writes, cuts and erases (R153 to R166). -/

namespace Sys2Proof.Machine

open Sys2Proof

/-! ### Working copies (R158) -/

/-- The working copies with that of one table loaded from its entries; SETUP has none. -/
def loadCopy (t : Nat) (entries : List (List Byte)) (w : Working) : Working :=
  if t = 1 then { w with gain := entries.map gainOf }
  else if t = 2 then { w with band := entries.map bandOf }
  else if t = 3 then { w with temps := entries.map tempPointOf }
  else if t = 4 then { w with screen := entries.head?.map screenOf }
  else if 5 ≤ t then { w with pages := w.pages.set (t - 5) (entries.map (classOf (gapsOf t))) }
  else w

/-- The working copies of all tables 1 to 12, as START loads them. -/
def loadAll (c : CalMemory) : Working :=
  (List.range 13).foldl (fun w t => loadCopy t (tableEntries c t) w) .absent

/-! ### The check at start (R154, R166) -/

/-- Every stored table emptied: the completion of an erase (R166). -/
def erased (c : CalMemory) : CalMemory :=
  { c with
    tables := List.replicate 13 .blank
    lock := false
    eraseMarker := false
    failed := []
    working := .absent
    calibrated := false
    activity := .idle }

/-- The ids of the tables that fail their check. -/
def failedTables (c : CalMemory) : List Nat := (List.range 13).filter fun t => failsCheck t (storedTable c t)

/-- The calibration memory as START leaves it: an interrupted erase completed, the tables checked, the working copies loaded
and the calibrated flag evaluated. -/
def startedCal (c : CalMemory) : CalMemory :=
  let e := if c.eraseMarker then erased c else c
  let f := { e with failed := failedTables e, activity := .idle }
  let g := { f with working := loadAll f }
  { g with calibrated := calibratedNow g }

/-! ### Writes and cuts (R160 to R163) -/

/-- The entries of a table after a write or cut of it. -/
def changedEntries (entries : List (List Byte)) : Change → List (List Byte)
  | .entry index bytes => if index < entries.length then entries.set index bytes else entries ++ [bytes]
  | .cut count => entries.take count

/-- The stored table with those entries: count and check byte stored, the open mark cleared (R154). -/
def closedTable (entries : List (List Byte)) : Stored :=
  { count := entries.length, entries := entries, check := checkByte entries.length entries, openMark := false }

/-- The calibration memory at the completion of a write or cut (R162, R163). -/
def completedCal (t : Nat) (change : Change) (c : CalMemory) : CalMemory :=
  let entries := changedEntries (tableEntries c t) change
  let d := { c with
    tables := c.tables.set t (closedTable entries)
    failed := c.failed.filter fun k => decide (k ≠ t)
    working := loadCopy t entries c.working
    activity := .idle }
  { d with calibrated := calibratedNow d }

/-- The station at the completion, with DONE offered to the source of the command. -/
def completeChange (kind : Byte) (t : Nat) (change : Change) (source : Byte) (s : State) : State :=
  sendReply source kind .done (BitVec.ofNat 8 t) (s.withCal (completedCal t change s.cal))

/-- A write or cut accepted: the table's open mark is set and the calibration memory enters WRITING (R154, R160). -/
def beginChange (t : Nat) (change : Change) (source : Byte) (s : State) : State :=
  s.withCal { s.cal with
    tables := s.cal.tables.set t { storedTable s.cal t with openMark := true }
    activity := .writing t change source s.tick }

/-- The calibration memory counts as busy: WRITING, ERASING, or a restart pending (R160, R179). -/
def calBusy (s : State) : Bool := decide (s.cal.activity ≠ .idle) || s.ctl.restartPending

/-- The first test of R161 that fails for a write or cut of table t, when `rangeOk`, `fieldOk` and `orderOk` are the answers
of tests 6 to 8. -/
def changeRefusal (s : State) (t : Nat) (rangeOk fieldOk inOrder : Bool) : Option ReplyCode :=
  if 13 < t then some .range
  else if t = 13 then some .notAllowed
  else if s.cal.lock then some .locked
  else if s.straps.calEnable = false then some .notAllowed
  else if calBusy s then some .busy
  else if rangeOk = false then some .range
  else if fieldOk = false then some .field
  else if inOrder = false then some .order
  else none

/-- The index test of a write (R162). -/
def indexOk (s : State) (t index : Nat) : Bool :=
  decide (index ≤ (tableEntries s.cal t).length) && decide (index < tableCap t)

/-- A TABLE_WRITE of one entry (R161, R162). -/
def tableWrite (f : RxFrame) (t index : Nat) (entry : List Byte) (s : State) : State :=
  match changeRefusal s t (indexOk s t index) (entryOk t entry) (orderOk t (tableEntries s.cal t) index entry) with
  | some code => replyTo f code (BitVec.ofNat 8 t) s
  | none => beginChange t (.entry index entry) f.source s

/-- A TABLE_CUT to a new count (R161, R163). -/
def tableCut (f : RxFrame) (t count : Nat) (s : State) : State :=
  match changeRefusal s t (decide (count ≤ (tableEntries s.cal t).length)) true true with
  | some code => replyTo f code (BitVec.ofNat 8 t) s
  | none => beginChange t (.cut count) f.source s

/-! ### Reads (R164) -/

/-- The entries a TABLE_READ reads: the stored ones of a present table, or the counters for table 13. -/
def readEntries (s : State) (t : Nat) : List (List Byte) :=
  if t = 13 then s.counters.values.map (bytesOf 2) else tableEntries s.cal t

/-- The table is busy for reading: ERASING, or WRITING with that table. -/
def readBusy (s : State) (t : Nat) : Bool :=
  match s.cal.activity with
  | .idle => false
  | .writing k _ _ _ => decide (k = t)
  | .erasing _ _ => true

/-- The first test of R164 that fails. -/
def readRefusal (s : State) (t start count : Nat) : Option ReplyCode :=
  if 13 < t then some .range
  else if inRange 1 12 count = false then some .field
  else if readBusy s t then some .busy
  else if t ≠ 13 ∧ tablePresent s.cal t = false then some .absent
  else if (readEntries s t).length ≤ start then some .range
  else none

/-- The frames of an answer are offered one after another; at the first refusal that frame and every later one is dropped and
counted (R164). -/
def offerAll : List TxFrame → State → State
  | [], s => s
  | f :: l, s => if placeFree s then offerAll l (takePlace f s) else offerAll l (txDrop s)

/-- The TABLE_DATA frames of an answer, the last marked end. -/
def dataFrames (dst : Byte) (t start : Nat) (entries : List (List Byte)) : List TxFrame :=
  (entries.zipIdx start).map fun e => tableDataFrame dst t e.2 (decide (e.2 + 1 = start + entries.length)) e.1

/-- A TABLE_READ (R164). -/
def tableRead (f : RxFrame) (t start count : Nat) (s : State) : State :=
  match readRefusal s t start count with
  | some code => replyTo f code (BitVec.ofNat 8 t) s
  | none => offerAll (dataFrames f.source t start (((readEntries s t).drop start).take count)) s

/-! ### Lock and erase (R165, R166) -/

/-- A LOCK (R165). -/
def takeLock (f : RxFrame) (s : State) : State :=
  if s.straps.calEnable = false then replyTo f .notAllowed noTable s
  else if calBusy s then replyTo f .busy noTable s
  else if s.cal.lock then replyTo f .done noTable s
  else if ([0, 1, 2, 3, 4].all fun t => tablePresent s.cal t) = false then replyTo f .notAllowed noTable s
  else replyTo f .done noTable (s.withCal { s.cal with lock := true })

/-- An ERASE (R166). -/
def takeErase (f : RxFrame) (s : State) : State :=
  if s.straps.calEnable = false then replyTo f .notAllowed noTable s
  else if calBusy s then replyTo f .busy noTable s
  else s.withCal { s.cal with eraseMarker := true, activity := .erasing f.source s.tick }

/-! ### The completions -/

/-- WRITE_COMPLETE (R162): no earlier than 1 tick after the beginning (R160). -/
def execWriteComplete (s : State) : Host.Outcome State Fault Refusal :=
  match s.cal.activity with
  | .writing t (.entry index bytes) source begun =>
    if isLater s.tick begun then .next (completeChange 0x34 t (.entry index bytes) source s) else .next s
  | .writing _ (.cut _) _ _ | .idle | .erasing _ _ => .next s

/-- CUT_COMPLETE (R163). -/
def execCutComplete (s : State) : Host.Outcome State Fault Refusal :=
  match s.cal.activity with
  | .writing t (.cut count) source begun =>
    if isLater s.tick begun then .next (completeChange 0x35 t (.cut count) source s) else .next s
  | .writing _ (.entry _ _) _ _ | .idle | .erasing _ _ => .next s

/-- ERASE_COMPLETE (R166). -/
def execEraseComplete (s : State) : Host.Outcome State Fault Refusal :=
  match s.cal.activity with
  | .erasing source begun =>
    if isLater s.tick begun then .next (sendReply source 0x37 .done noTable (s.withCal (erased s.cal))) else .next s
  | .idle | .writing _ _ _ _ => .next s

end Sys2Proof.Machine
end

