-- ==== Sys2Proof/Machine/Detect.lean ====
section
/-! DEFINITION. What one sample does to one pulse detector (R6 to R18), and what REZERO does to it (R19). -/

namespace Sys2Proof.Machine

open Sys2Proof

/-- A sample as it reaches a detector (R3, R4). -/
inductive Sample
  | good (value : Int) (clip : Bool)
  | missing
deriving DecidableEq, Repr

/-- The corrected sample of a value against a baseline b16 (R6). -/
def corrected (b16 x : Int) : Int := x - roundAway b16 16

/-- The baseline moved by one sixty-fourth of its gap, rounded toward zero (R9). -/
def track (b16 x : Int) : Int := b16 + (16 * x - b16).tdiv 64

/-- Entry into ACQUIRING: unseeded, settle count 0, the missing count as the way of entry gives it (R7). -/
def enterAcquiring (missing : Nat) (d : Detector) : Detector :=
  { d with state := .acquiring, base := none, settle := 0, missing := missing }

/-- A good sample in ACQUIRING (R8). -/
def goodAcquiring (u : Setup) (x : Int) (clip : Bool) (d : Detector) : Detector :=
  match d.base with
  | none => if clip then d else { d with base := some (16 * x), settle := 1 }
  | some b =>
    if clip || decide ((u.tOn : Int) ≤ corrected b x) then { d with settle := 0 }
    else { d with
      base := some (track b x)
      settle := d.settle + 1
      state := if settleTarget ≤ d.settle + 1 then .ready else .acquiring }

/-- The pulse that an onset sample of tick t starts (R13). -/
def startPulse (t : Tick) (c : Int) (clip : Bool) : Pulse :=
  { onset := t, lastAbove := t, area := c.toNat, tentative := 0, below := 0, clipped := clip, gapped := false, long := false,
    saturated := false }

/-- A good sample in READY (R9, R13). -/
def goodReady (u : Setup) (t : Tick) (x : Int) (clip : Bool) (d : Detector) : Detector :=
  let c := corrected (d.base.getD 0) x
  if (u.tOn : Int) ≤ c then { d with state := .inPulse (startPulse t c clip) }
  else if clip then d
  else { d with base := d.base.map fun b => track b x }

/-- A sample at or above T_off joins the area with the dip before it, between the limits 1 and 2^31 − 1 (R14, R15). -/
def addArea (p : Pulse) (c : Int) : Pulse :=
  let sum := (p.area : Int) + p.tentative + c
  if p.saturated then p
  else if (areaMax : Int) < sum then { p with area := areaMax, saturated := true, clipped := true }
  else { p with area := if sum < 1 then 1 else sum.toNat }

/-- LONG is set when t − onset + 1 exceeds Dmax (R17). -/
def longTest (u : Setup) (t : Tick) (p : Pulse) : Bool := decide (u.dmax < (t - p.onset + 1).toNat)

/-- A good sample at or above T_off in IN_PULSE (R14). -/
def pulseAbove (u : Setup) (t : Tick) (c : Int) (p : Pulse) : Pulse :=
  { addArea p c with tentative := 0, lastAbove := t, below := 0, long := p.long || longTest u t p }

/-- A good sample below T_off in IN_PULSE (R14). -/
def pulseBelow (c : Int) (p : Pulse) : Pulse := { p with tentative := p.tentative + c, below := p.below + 1 }

/-- The record of an ended pulse (R18). -/
def recordOf (ch : Chan) (p : Pulse) : PulseRec :=
  { chan := ch, onset := p.onset, last := p.lastAbove, area := p.area, clipped := p.clipped, gapped := p.gapped,
    long := p.long }

/-- The detector after the release of its pulse: READY, or ACQUIRING when a REZERO is pending (R16). -/
def afterRelease (d : Detector) : Detector :=
  if d.rezero then { enterAcquiring d.missing d with rezero := false } else { d with state := .ready }

/-- A good sample in IN_PULSE (R14, R16). -/
def goodInPulse (u : Setup) (ch : Chan) (t : Tick) (x : Int) (clip : Bool) (p : Pulse) (d : Detector) :
    Detector × Option PulseRec :=
  let c := corrected (d.base.getD 0) x
  let q := { p with clipped := p.clipped || clip }
  if (u.tOff : Int) ≤ c then ({ d with state := .inPulse (pulseAbove u t c q) }, none)
  else if u.q ≤ p.below + 1 then (afterRelease d, some (recordOf ch (pulseBelow c q)))
  else ({ d with state := .inPulse (pulseBelow c q) }, none)

/-- A good sample in FAULT (R11). -/
def goodFault (d : Detector) : Detector :=
  if recoveryTarget ≤ d.good + 1 then enterAcquiring 0 { d with good := d.good + 1 } else { d with good := d.good + 1 }

/-- Entry into FAULT at the eighth missing sample in a row (R10). -/
def enterFault (d : Detector) : Detector := { d with state := .fault, good := 0, missing := 0 }

/-- A missing sample (R8, R10, R11, R14): GAPPED is set in a pulse, a seeded ACQUIRING detector starts to settle anew, and
the eighth in a row sends the detector to FAULT, where a pulse under way ends and REZERO-pending is cleared. -/
def missingSample (ch : Chan) (d : Detector) : Detector × Option PulseRec :=
  let more := { d with missing := d.missing + 1 }
  let last := decide (missingLimit ≤ d.missing + 1)
  match d.state with
  | .fault => ({ d with good := 0 }, none)
  | .acquiring =>
    let e := if d.base.isSome then { more with settle := 0 } else more
    (if last then enterFault e else e, none)
  | .ready => (if last then enterFault more else more, none)
  | .inPulse p =>
    let q := { p with gapped := true }
    if last then ({ enterFault more with rezero := false }, some (recordOf ch q))
    else ({ more with state := .inPulse q }, none)

/-- One sample of tick t taken by the detector of a channel, with the record of the pulse it ends, if any. -/
def takeSample (u : Setup) (ch : Chan) (t : Tick) (x : Sample) (d : Detector) : Detector × Option PulseRec :=
  match x with
  | .missing => missingSample ch d
  | .good v clip =>
    match d.state with
    | .acquiring => (goodAcquiring u v clip { d with missing := 0 }, none)
    | .ready => (goodReady u t v clip { d with missing := 0 }, none)
    | .inPulse p => goodInPulse u ch t v clip p { d with missing := 0 }
    | .fault => (goodFault d, none)

/-- REZERO taken by a detector it names (R19). -/
def rezeroDetector (d : Detector) : Detector :=
  match d.state with
  | .acquiring | .ready => enterAcquiring d.missing d
  | .inPulse _ => { d with rezero := true }
  | .fault => d

/-- SAMPLE_PORT_SILENT: a detector not already in FAULT enters it with its good count at 0 (R12). -/
def silenceDetector (d : Detector) : Detector :=
  match d.state with
  | .fault => d
  | .acquiring | .ready | .inPulse _ => { d with state := .fault, good := 0 }

/-- A detector is READY or FAULT, the condition that ends SETTLING (R183). -/
def settled (d : Detector) : Bool := decide (d.state = .ready) || decide (d.state = .fault)

/-! ### The channel map (R5) -/

/-- The physical input that feeds each channel: the map, with the inputs of a line exchanged by its swap flag. -/
def routing (u : Setup) : Quad (BitVec 2) :=
  { al := if u.swapA then u.map.ar else u.map.al
    ar := if u.swapA then u.map.al else u.map.ar
    bl := if u.swapB then u.map.br else u.map.bl
    br := if u.swapB then u.map.bl else u.map.br }

/-- The sample a set that passed its check gives to the channel fed by an input. -/
def inputSample (v0 v1 v2 v3 : BitVec 16) (tags : Byte) (input : BitVec 2) : Sample :=
  .good ([v0, v1, v2, v3].getD input.toNat 0).toInt (tags.getLsbD input.toNat)

end Sys2Proof.Machine
end

