-- ==== Sys2Proof/Machine/Pairing.lean ====
section
/-! DEFINITION. The speed of a pair and the walk of a line-B record down its A-pending list (R22, R23, R25). -/

namespace Sys2Proof.Machine

open Sys2Proof

/-- The result of trying an A record for a B record (R22). -/
inductive PairTest
  | tooOld
  | tooFast
  | pairs (v : Nat)
deriving DecidableEq, Repr

/-- The trial of an A record with centre `ha` for a B record with centre `hb` at line spacing `d` (R22, R23). -/
def pairTest (d : Nat) (ha hb : HalfTick) : PairTest :=
  if sdiff hb ha ≤ 0 then .tooFast
  else
    let v := roundHalfUp (d * halfTicksPerSecond) (sdiff hb ha).toNat
    if v < speedMin then .tooOld else if speedMax < v then .tooFast else .pairs v

/-- What the walk of R22 gives: the number of A records dropped as too old, the pair if one is formed, and the list left. -/
structure Walk where
  dropped : Nat
  pair : Option (PulseRec × Nat)
  rest : List PulseRec
deriving DecidableEq, Repr

/-- The walk of a B record down the A-pending list from its oldest record (R22). -/
def walk (d : Nat) (hb : HalfTick) : List PulseRec → Walk
  | [] => { dropped := 0, pair := none, rest := [] }
  | a :: l =>
    match pairTest d a.centre hb with
    | .tooOld => let w := walk d hb l; { w with dropped := w.dropped + 1 }
    | .tooFast => { dropped := 0, pair := none, rest := a :: l }
    | .pairs v => { dropped := 0, pair := some (a, v), rest := l }

/-- The shortest Δh that pairs at line spacing `d`: the least with 2·16000·d < 138,889·Δh (R25). -/
def deltaMin (d : Nat) : Nat := 2 * (d * halfTicksPerSecond) / (2 * speedMax + 1) + 1

/-- The longest Δh that pairs at line spacing `d`: the greatest with 2777·Δh ≤ 2·16000·d (R25). -/
def deltaMax (d : Nat) : Nat := 2 * (d * halfTicksPerSecond) / (2 * speedMin - 1)

/-- The end of the span of B-centres that can still pair with an A record (R25). -/
def spanEnd (d : Nat) (a : PulseRec) : HalfTick := after a.centre (deltaMax d)

/-- The beginning of that span. -/
def spanBegin (d : Nat) (a : PulseRec) : HalfTick := after a.centre (deltaMin d)

/-- The path of a channel. -/
def pathOf : Chan → Path
  | .al | .bl => .left
  | .ar | .br => .right

/-- A channel of line A. -/
def onLineA : Chan → Bool
  | .al | .ar => true
  | .bl | .br => false

/-- The index of a channel in the GAIN table (R153). -/
def chanIndex : Chan → Nat
  | .al => 0
  | .ar => 1
  | .bl => 2
  | .br => 3

end Sys2Proof.Machine
end

