-- ==== Sys2Proof/Machine/Loads.lean ====
section
/-! DEFINITION. The load arithmetic of one weighing (R32 to R40). -/

namespace Sys2Proof.Machine

open Sys2Proof

/-- A load estimate, with its mark for clipped (R35). -/
structure Estimate where
  value : Nat
  clipped : Bool
deriving DecidableEq, Repr

/-- A pulse is weighable: it carries neither GAPPED nor LONG (R18). -/
def weighable (r : PulseRec) : Bool := !r.gapped && !r.long

/-- The band factor for a record speed: the first entry whose bound is at least it, else the last entry (R33). -/
def bandFactor : List (Nat × Nat) → Nat → Nat
  | [], _ => 0
  | [e], _ => e.2
  | e :: f :: l, r => if r ≤ e.1 then e.2 else bandFactor (f :: l) r

/-- The temperature factor between two points (R34). -/
def interpolate (a b : Int × Nat) (t : Int) : Int :=
  a.2 + roundAway (((b.2 : Int) - a.2) * (t - a.1)) (b.1 - a.1).toNat

/-- The temperature factor from the second point on: `a` is the last point passed. -/
def tempFactorFrom (a : Int × Nat) : List (Int × Nat) → Int → Int
  | [], _ => a.2
  | b :: l, t => if b.1 ≤ t then tempFactorFrom b l t else interpolate a b t

/-- The temperature factor for an effective temperature (R34). -/
def tempFactor : List (Int × Nat) → Int → Int
  | [], _ => 0
  | a :: l, t => if t ≤ a.1 then a.2 else tempFactorFrom a l t

/-- The estimate of a weighable pulse of area `area` (R32 to R35). -/
def estimate (w : Weighing) (r : PulseRec) : Estimate :=
  let w1 := roundHalfUp (r.area * w.hit.speed * w.gain.getD (chanIndex r.chan) 0) 4294967296
  if loadMax < w1 then ⟨loadMax, true⟩
  else
    let w2 := roundHalfUp (w1 * bandFactor w.band (recordSpeed w.hit.speed)) 1024
    if loadMax < w2 then ⟨loadMax, true⟩
    else
      let w3 := roundHalfUp (w2 * (tempFactor w.temps w.temp).toNat) 1024
      if loadMax < w3 then ⟨loadMax, true⟩ else ⟨w3, r.clipped⟩

/-- A wheel load with its CLIPPED and DISAGREE flags (R37). -/
structure WheelLoad where
  load : Option Nat
  clipped : Bool
  disagree : Bool
deriving DecidableEq, Repr

/-- The DISAGREE test of two clean estimates (R38). -/
def disagrees (limit wa wb : Nat) : Bool :=
  decide (limit * roundHalfUp (wa + wb) 2 < ((wa : Int) - wb).natAbs * 100)

/-- The combination of the two estimates, none for an unweighable pulse (R36, R37). -/
def combine (limit : Nat) : Option Estimate → Option Estimate → WheelLoad
  | some a, some b =>
    if a.clipped then
      if b.clipped then ⟨some (max a.value b.value), true, false⟩ else ⟨some b.value, false, false⟩
    else
      if b.clipped then ⟨some a.value, false, false⟩
      else ⟨some (roundHalfUp (a.value + b.value) 2), false, disagrees limit a.value b.value⟩
  | some a, none => ⟨some a.value, a.clipped, false⟩
  | none, some b => ⟨some b.value, b.clipped, false⟩
  | none, none => ⟨none, false, false⟩

/-- The estimate of a pulse, none when it is unweighable. -/
def estimateOf (w : Weighing) (r : PulseRec) : Option Estimate := if weighable r then some (estimate w r) else none

/-- The weighing outcome at completion (R37 to R40). -/
def weighingOutcome (w : Weighing) : WheelData :=
  let r := if w.calibrated then combine w.limit (estimateOf w w.hit.aPulse) (estimateOf w w.hit.bPulse)
           else ⟨none, false, false⟩
  { load := r.load, clipped := r.clipped, disagree := r.disagree, notWeighed := r.load.isNone,
    uncalibrated := !w.calibrated, temp := some w.temp, source := some w.source }

/-- The outcome of a wheel hit that bypasses weighing (R27). -/
def bypassOutcome : WheelData :=
  { load := none, clipped := false, disagree := false, notWeighed := true, uncalibrated := false, temp := none,
    source := none }

end Sys2Proof.Machine
end

