-- ==== Sys2Proof/Machine/Classify.lean ====
section
/-! DEFINITION. Class matching and screening of a closed vehicle (R103 to R116). -/

namespace Sys2Proof.Machine

open Sys2Proof

/-! ### The class (R104 to R108) -/

/-- The wheels present in an axle. -/
def wheelsOf (a : Axle) : List WheelData := a.left.toList ++ a.right.toList

/-- The wheels present in an axle list. -/
def allWheels (l : List Axle) : List WheelData := l.flatMap wheelsOf

/-- The gross: the sum of the wheel loads present (R107). -/
def grossOf (l : List Axle) : Nat := ((allWheels l).map fun w => w.load.getD 0).sum

/-- The gross is INCOMPLETE: a wheel present has its load absent (R107). -/
def grossIncomplete (l : List Axle) : Bool := (allWheels l).any fun w => w.load.isNone

/-- The gross passes the gross range of an entry (R107). -/
def grossMatches (c : ClassEntry) (gross : Nat) (incomplete : Bool) : Bool :=
  (decide (c.grossLow = 0) && decide (c.grossHigh = 1000))
    || (!incomplete && decide (c.grossLow * 100 ≤ gross) && decide (gross ≤ c.grossHigh * 100))

/-- Every spacing passes the range of its place in the gap list (R106). -/
def gapsMatch (c : ClassEntry) (sp : List Nat) : Bool :=
  (sp.zip c.gaps).all fun x => decide (x.2.1 ≤ inDm x.1) && decide (inDm x.1 ≤ x.2.2)

/-- An entry matches a vehicle (R108). -/
def entryMatches (l : List Axle) (c : ClassEntry) : Bool :=
  gapsMatch c (spacings l) && grossMatches c (grossOf l) (grossIncomplete l)

/-- The total axle count (R105). -/
def totalAxles (v : Vehicle) : Nat := v.lead + v.axles.length

/-- The first matching entry of a page with its index (R108). -/
def firstMatch (l : List Axle) (page : List ClassEntry) : Option (ClassEntry × Nat) :=
  page.zipIdx.find? fun e => entryMatches l e.1

/-- The matching entry of a vehicle: searched for when its total count is 2..9 (R105). -/
def matchOf (w : Working) (v : Vehicle) : Option (ClassEntry × Nat) :=
  if 2 ≤ totalAxles v ∧ totalAxles v ≤ 9 then firstMatch v.axles (w.pages.getD (totalAxles v - 2) []) else none

/-- The class of a vehicle (R105, R108). -/
def classOfVehicle (w : Working) (v : Vehicle) : Nat :=
  if 10 ≤ totalAxles v then 15 else ((matchOf w v).map fun e => e.1.code).getD 0

/-! ### The quantities of screening (R112) -/

/-- The worse of two sources. -/
def worseSource (a b : Source) : Source := if sourceCode a ≤ sourceCode b then b else a

/-- The worst source of the wheels present, unknown when none carries one. -/
def worstSource (l : List Axle) : Option Source :=
  ((allWheels l).filterMap WheelData.source).foldl (fun w x => some ((w.map fun y => worseSource y x).getD x)) none

/-- The temperature of the earliest axle. -/
def firstTemp (l : List Axle) : Option Int :=
  (l.head?).bind fun a => (a.left.bind WheelData.temp).or (a.right.bind WheelData.temp)

/-- An axle carries a flag when either of its wheels does. -/
def axleHas (f : WheelData → Bool) (a : Axle) : Bool := (wheelsOf a).any f

/-! ### Eligibility and limits (R111, R113) -/

/-- What the conditions of R111 read besides the entry. -/
structure ScreenInput where
  locked : Bool
  record : Option ScreenRec
  calibrated : Bool
  screenOn : Bool
deriving DecidableEq, Repr

/-- The conditions of R111 in order, each with the reason of its failure. -/
def conditions (i : ScreenInput) (v : Vehicle) (cls : Nat) (r : ScreenRec) : List (Bool × Reason) :=
  [(i.locked && i.record.isSome, .notLocked),
   (i.calibrated && !v.uncalibrated, .notCalibrated),
   (i.screenOn, .screenOff),
   (inRange 1 14 cls, .cls),
   (inRange r.speedLow r.speedHigh (recordSpeed v.firstSpeed), .speedBand),
   ((worstSource v.axles).isSome && decide (worstSource v.axles ≠ some .default), .tempSource),
   (((firstTemp v.axles).map fun t => decide (r.tempLow ≤ t) && decide (t ≤ r.tempHigh)).getD false, .tempBand),
   (v.axles.all (fun a => decide (a.kind ≠ .part)), .part),
   (v.axles.all (fun a => !a.unconfirmed), .unconfirmed),
   (v.axles.all (fun a => !axleHas WheelData.clipped a), .clipped),
   (v.axles.all (fun a => !axleHas WheelData.disagree a), .disagree),
   (v.axles.all (fun a => !axleHas WheelData.notWeighed a), .notWeighed),
   (!v.truncated && !v.continuation, .chain)]

/-- The reason of the first condition that fails. -/
def firstFailure : List (Bool × Reason) → Option Reason
  | [] => none
  | (ok, r) :: l => if ok then firstFailure l else some r

/-- A SCREEN record to read the bands from while none is present; condition 1 has failed then (R109). -/
def ScreenRec.blank : ScreenRec := { speedLow := 0, speedHigh := 0, tempLow := 0, tempHigh := 0, limit := 0 }

/-- The load of an axle: the sum of its wheel loads (R113). -/
def axleLoad (a : Axle) : Nat := ((wheelsOf a).map fun w => w.load.getD 0).sum

/-- The exceeding axles with their positions from 1 and their loads (R113). -/
def exceedingAxles (limit : Nat) (l : List Axle) : List (Nat × Nat) :=
  ((l.zipIdx 1).filter fun a => decide (limit * 100 < axleLoad a.1)).map fun a => (a.2, axleLoad a.1)

/-- The outcome fields of a vehicle, with overload notice state NONE (R116). -/
def classify (w : Working) (i : ScreenInput) (v : Vehicle) : Classed :=
  let m := matchOf w v
  let cls := classOfVehicle w v
  let failure := firstFailure (conditions i v cls (i.record.getD .blank))
  let limits := (m.map fun e => (e.1.axleLimit, e.1.grossLimit)).getD (0, 0)
  let exceeding := exceedingAxles limits.1 v.axles
  let grossExceeds := decide (limits.2 * 100 < grossOf v.axles)
  let overloaded := failure.isNone && (!exceeding.isEmpty || grossExceeds)
  { total := totalAxles v
    cls := cls
    entry := m.map fun e => e.2
    gross := grossOf v.axles
    incomplete := grossIncomplete v.axles
    speed := recordSpeed v.firstSpeed
    worst := worstSource v.axles
    firstTemp := firstTemp v.axles
    screening :=
      match failure with
      | some r => .notScreened r
      | none => if overloaded then .overload else .clear
    exceeding := if overloaded then exceeding else []
    grossExceeds := overloaded && grossExceeds
    notice := .none }

end Sys2Proof.Machine
end

