-- ==== Sys2Proof/Machine/Assembler.lean ====
section
/-! DEFINITION. The vehicle assembler (chapter 5): axles arrive, join and open vehicles, entries close, are classed and are
offered; changes of linked axles; the lane-clear run. -/

namespace Sys2Proof.Machine

open Sys2Proof

/-! ### Leaving CLOSING (R97, R98, R103, R115) -/

/-- A vehicle entry has a linked merge-table entry in OFFERED, WAITING or TAKEN (R82). -/
def hasLinked (number : BitVec 16) (s : State) : Bool :=
  s.former.merges.any fun e => decide (e.vehicle = number) && decide (e.state ≠ .ceded)

/-- What screening reads at the classing event (R103). -/
def screenInput (s : State) : ScreenInput :=
  { locked := s.cal.lock, record := s.cal.working.screen, calibrated := s.cal.calibrated, screenOn := s.screenOn }

/-- An OVERLOAD frame takes the empty immediate slot, or is offered to the transmit queue (R115). -/
def offerOverload (f : TxFrame) (s : State) : State × NoticeState :=
  if s.link.immediate.isNone then (withImmediate s (some f), .slot)
  else ((offerUrgent f s).1, if (offerUrgent f s).2 then .queued else .dropped)

/-- A vehicle that has entered CLOSED is classed and screened and enters READY; its OVERLOAD frame is offered first
(R103, R115). -/
def classVehicle (v : Vehicle) (s : State) : State :=
  let c := classify s.cal.working (screenInput s) v
  if c.screening = .overload then
    let r := offerOverload (mkFrame .overload broadcast (overloadPayload (ownLane s) v c)) s
    changeVehicle v.number (fun w => { w with state := .ready, outcome := some { c with notice := r.2 } }) r.1
  else changeVehicle v.number (fun w => { w with state := .ready, outcome := some c }) s

/-- An entry enters CLOSED: it joins the closing order (R98). -/
def enterClosed (number : BitVec 16) (s : State) : State :=
  changeVehicle number (fun w => { w with state := .closed })
    (s.withVeh { s.veh with closingOrder := s.veh.closingOrder ++ [number] })

/-- An entry in CLOSING with no linked merge-table entry leaves that state: with an axle it is closed, classed and offered;
with none it is freed as DISCARDED (R97). -/
def leaveClosing (number : BitVec 16) (s : State) : State :=
  match findVehicle number s with
  | some v =>
    if v.state = .closing ∧ hasLinked number s = false then
      if v.axles.isEmpty then bump .cededWhole (freeVehicle number s)
      else offerReady (classVehicle { v with state := .closed } (enterClosed number s))
    else s
  | none => s

/-- The OPEN entry. -/
def openEntry (s : State) : Option Vehicle := s.veh.entries.find? fun v => decide (v.state = .opened)

/-- The OPEN entry changed. -/
def changeOpen (g : Vehicle → Vehicle) (s : State) : State :=
  s.withVeh { s.veh with entries := s.veh.entries.map fun v => if v.state = .opened then g v else v }

/-- An entry as it goes to CLOSING with its close cause and its gap timer stopped (R89, R92, R93). -/
def closingVehicle (cause : CloseCause) (v : Vehicle) : Vehicle :=
  { v with state := .closing, cause := some cause, gapExpiry := none }

/-- The OPEN entry, of that number, goes to CLOSING and proceeds as R97 states (R89, R92, R93). -/
def closeEntry (number : BitVec 16) (cause : CloseCause) (s : State) : State :=
  leaveClosing number (changeOpen (closingVehicle cause) s)

/-- The OPEN entry of twelve axles goes to CLOSING with cause AXLE_LIMIT and TRUNCATED set (R90). -/
def truncateEntry (number : BitVec 16) (s : State) : State :=
  closeEntry number .axleLimit (changeOpen (fun v => { v with truncated := true }) s)

/-! ### An axle arrives (R86 to R92) -/

/-- The length of the gap timer after an axle of speed v: the maximum spacing at that speed, rounded up, plus 2000 (R92). -/
def gapTime (maxSpacing v : Nat) : Nat := ceilDiv (maxSpacing * 8000) v + gapMargin

/-- A wheel of the axle carries the uncalibrated mark (R100). -/
def axleUncalibrated (a : Axle) : Bool := axleHas WheelData.uncalibrated a

/-- An axle takes its place by time, after an axle of equal time (R84). -/
def insertAxle (a : Axle) : List Axle → List Axle
  | [] => [a]
  | b :: l => if isLater b.time a.time then a :: b :: l else b :: insertAxle a l

/-- The spacing part of the joining test: the spacing from the entry's last time and speed (R87, R88). -/
def spacingOk (u : Setup) (v : Vehicle) (a : Axle) : Bool :=
  decide (min spacingMax (roundHalfUp ((a.speed + v.lastSpeed) * (sdiff a.time v.lastTime).natAbs) 32000) ≤ u.maxSpacing)

/-- The speed part of the joining test: within 20 % of the first-axle speed (R87). -/
def speedOk (v : Vehicle) (a : Axle) : Bool := decide (((a.speed : Int) - v.firstSpeed).natAbs * 5 ≤ v.firstSpeed)

/-- A vehicle entry opened by an axle (R91); `lead` is the lead count when the axle continues a truncated vehicle (R90). -/
def newVehicle (s : State) (a : Axle) (lead : Option Nat) : Vehicle :=
  { number := s.veh.counter, state := .opened, axles := [a], firstSpeed := a.speed, lastTime := a.time, lastSpeed := a.speed,
    gapExpiry := some (after s.tick (gapTime s.setup.maxSpacing a.speed)), lead := lead.getD 0, truncated := false,
    continuation := lead.isSome, uncalibrated := axleUncalibrated a, cause := none, outcome := none }

/-- An axle opens a new vehicle, or is lost for want of a free entry (R91). The answer names the vehicle it reached. -/
def openVehicle (a : Axle) (lead : Option Nat) (s : State) : State × Option (BitVec 16) :=
  if s.veh.entries.length < vehicleCap then
    (s.withVeh { s.veh with
      entries := s.veh.entries ++ [newVehicle s a lead]
      counter := s.veh.counter + 1
      lastOpened := some s.veh.counter }, some s.veh.counter)
  else (raise .queueLoss (bump .vehicleLoss s), none)

/-- An axle joins an entry (R87). -/
def joinVehicle (s : State) (a : Axle) (v : Vehicle) : Vehicle :=
  { v with
    axles := insertAxle a v.axles
    lastTime := if isLater a.time v.lastTime then a.time else v.lastTime
    lastSpeed := if isLater a.time v.lastTime then a.speed else v.lastSpeed
    gapExpiry := some (after s.tick (gapTime s.setup.maxSpacing a.speed))
    uncalibrated := v.uncalibrated || axleUncalibrated a }

/-- The lane-clear run ends (R101). -/
def endRun (s : State) : State := s.withVeh { s.veh with runCount := 0 }

/-- An axle is placed: it joins the OPEN entry, or closes it and opens a vehicle, or opens a vehicle (R86). -/
def placeAxle (a : Axle) (s : State) : State × Option (BitVec 16) :=
  match openEntry s with
  | none => openVehicle a none s
  | some v =>
    if spacingOk s.setup v a && speedOk v a then
      if v.axles.length < axleCap then (changeOpen (joinVehicle s a) s, some v.number)
      else openVehicle a (some (min leadMax (v.lead + v.axles.length))) (truncateEntry v.number s)
    else openVehicle a none (closeEntry v.number (if spacingOk s.setup v a then .speed else .spacing) s)

/-- An axle is handed to the vehicle assembler: axles formed is raised, a lane-clear run ends, and the axle is placed
(R66, R86, R101). -/
def handAxle (a : Axle) (s : State) : State × Option (BitVec 16) := placeAxle a (endRun (bump .axlesFormed s))

/-! ### Changes of a linked axle (R82, R96) -/

/-- The axle is the one linked to a merge-table entry. -/
def linkedTo (slot : Nat) (a : Axle) : Bool := decide (a.link = some slot)

/-- A linked axle changed in its place. -/
def changeAxle (e : MergeEntry) (g : Axle → Axle) (s : State) : State :=
  changeVehicle e.vehicle (fun v => { v with axles := v.axles.map fun a => if linkedTo e.slot a then g a else a }) s

/-- A linked axle changed and moved to its place by time. -/
def moveAxle (e : MergeEntry) (g : Axle → Axle) (uncalibrated : Bool) (s : State) : State :=
  changeVehicle e.vehicle (fun v =>
    match takeFirst (linkedTo e.slot) v.axles with
    | some (a, rest) => { v with axles := insertAxle (g a) rest, uncalibrated := v.uncalibrated || uncalibrated }
    | none => v) s

/-- A linked axle removed by a cede. -/
def removeAxle (e : MergeEntry) (s : State) : State :=
  changeVehicle e.vehicle (fun v => { v with axles := v.axles.filter fun a => !linkedTo e.slot a }) s

/-! ### The end of an event (R101, R183) -/

/-- SETTLING ends at the first event after which every detector is READY or FAULT (R183). -/
def endSettling (allSettled : Bool) (s : State) : State :=
  if s.ctl.station = .settling ∧ allSettled = true then s.withCtl { s.ctl with station := .run } else s

/-- A lane-clear run starts in RUN at an event after which the lane is clear while before it the lane was not clear, and at
the entry into RUN (R101). -/
def startRun (before s : State) : State :=
  if inRun s && laneClear s && !(inRun before && laneClear before) then
    s.withVeh { s.veh with runCount := s.setup.clearCount }
  else s

end Sys2Proof.Machine
end

