-- ==== Sys2Proof/Machine/Merging.lean ====
section
/-! DEFINITION. The axle former (chapter 4): wheels pair into axles, lone wheels become PARTIAL axles or half axles, and the
merge table and the peer-half table take them through the lane-edge merge. -/

namespace Sys2Proof.Machine

open Sys2Proof

/-! ### Axles of one and two wheels (R65 to R67) -/

/-- The wheel of a weighed hit as an own wheel. -/
def ownWheel (w : WeighedHit) : OwnWheel :=
  { path := w.hit.path, time := w.hit.centre, speed := w.hit.speed, data := w.data }

/-- The wheel of an own wheel on the left side, when it is of path L. -/
def leftOf (w : OwnWheel) : Option WheelData := if w.path = .left then some w.data else none

/-- The wheel of an own wheel on the right side, when it is of path R. -/
def rightOf (w : OwnWheel) : Option WheelData := if w.path = .right then some w.data else none

/-- A PARTIAL axle of an own wheel, with the reference of a merge that failed, if any. -/
def partAxle (w : OwnWheel) (ref : Option Byte) : Axle :=
  { time := w.time, speed := w.speed, left := leftOf w, right := rightOf w, kind := .part, unconfirmed := false, ref := ref,
    link := none }

/-- A PENDING axle of an own wheel, linked to the merge-table place. -/
def pendingAxle (w : OwnWheel) (ref : Option Byte) (slot : Nat) : Axle :=
  { partAxle w ref with kind := .pending, link := some slot }

/-- A FULL axle of a left and a right wheel: mean time and mean speed. -/
def fullAxle (l r : OwnWheel) : Axle :=
  { time := meanTime l.time r.time, speed := roundHalfUp (l.speed + r.speed) 2, left := some l.data, right := some r.data,
    kind := .full, unconfirmed := false, ref := none, link := none }

/-- The MERGED axle of an owner's wheel and a peer half: the own wheel on the left (R76). -/
def mergedAxle (w : OwnWheel) (h : PeerHalf) (a : Axle) : Axle :=
  { a with
    time := meanTime w.time h.centre
    speed := roundHalfUp (w.speed + h.speed) 2
    left := some w.data
    right := some h.data
    kind := .merged
    ref := some h.ref }

/-- An axle made PARTIAL with its own wheel; time, speed and side are the own wheel's, and it keeps its reference
(R66, R73, R78, R80). -/
def revertedAxle (w : OwnWheel) (a : Axle) : Axle :=
  { a with
    time := w.time
    speed := w.speed
    left := leftOf w
    right := rightOf w
    kind := .part
    link := none }

/-- A wheel becomes a PARTIAL axle at once. -/
def handPart (w : OwnWheel) (ref : Option Byte) (s : State) : State := (handAxle (partAxle w ref) s).1

/-! ### The merge table (R69) -/

/-- The station with its merge table replaced. -/
def withMerges (s : State) (l : List MergeEntry) : State := s.withFormer { s.former with merges := l }

/-- A merge-table entry changed. -/
def changeMerge (slot : Nat) (g : MergeEntry → MergeEntry) (s : State) : State :=
  withMerges s (s.former.merges.map fun e => if e.slot = slot then g e else e)

/-- A merge-table entry freed. -/
def freeMerge (slot : Nat) (s : State) : State := withMerges s (s.former.merges.filter fun e => decide (e.slot ≠ slot))

/-- A merge-table entry created. -/
def addMerge (e : MergeEntry) (s : State) : State := withMerges s (s.former.merges ++ [e])

/-- The lowest place of the merge table that is free. -/
def freeSlot (l : List MergeEntry) : Nat :=
  ((List.range mergeCap).find? fun k => l.all fun e => decide (e.slot ≠ k)).getD 0

/-- A reference is held by a ceder entry. -/
def refHeld (l : List MergeEntry) (r : Byte) : Bool :=
  l.any fun e => (decide (e.state = .offered) || decide (e.state = .ceded)) && decide (e.ref = some r)

/-- The reference a new ceder entry takes: the counter's value, or the next value that no ceder entry holds (R69). -/
def nextRef (f : Former) : Byte :=
  (((List.range (mergeCap + 1)).map fun k => f.refCounter + BitVec.ofNat 8 k).find? fun r => !refHeld f.merges r).getD
    f.refCounter

/-- The station with its reference counter advanced past a reference. -/
def advanceRef (r : Byte) (s : State) : State := s.withFormer { s.former with refCounter := r + 1 }

/-! ### Matching (R76) -/

/-- A peer entry of that station number is ALIGNED. -/
def isAligned (s : State) (station : Byte) : Bool :=
  s.peers.any fun p => decide (p.station = station) && decide (p.state = .aligned)

/-- A WAITING owner entry matches a peer half (R76). -/
def halfMatches (s : State) (e : MergeEntry) (h : PeerHalf) : Bool :=
  decide (h.sender = e.partner) && isAligned s h.sender && within h.centre e.own.time matchWindow
    && speedsAgree h.speed e.own.speed

/-- The peer half of a sender and reference. -/
def halfIs (sender ref : Byte) (h : PeerHalf) : Bool := decide (h.sender = sender) && decide (h.ref = ref)

/-- A peer half leaves its table. -/
def dropHalf (sender ref : Byte) (s : State) : State :=
  s.withFormer { s.former with halves := s.former.halves.filter fun h => !halfIs sender ref h }

/-- The axle linked to an entry becomes PARTIAL with its own wheel in its place, the entry is freed, and its vehicle leaves
CLOSING if it can (R73, R76, R78). -/
def giveUpMerge (e : MergeEntry) (s : State) : State :=
  leaveClosing e.vehicle
    (freeMerge e.slot (changeAxle e (fun a => { a with kind := .part, link := none }) s))

/-- A match: MERGE_TAKE is offered. Admitted, the entry is TAKEN and the axle MERGED; refused, the axle is PARTIAL (R76). -/
def takeMerge (e : MergeEntry) (h : PeerHalf) (s : State) : State :=
  let r := offerUrgent (mkFrame .mergeTake e.partner [h.ref]) s
  if r.2 then
    bump .mergesTaken
      (moveAxle e (mergedAxle e.own h) h.data.uncalibrated
        (dropHalf h.sender h.ref
          (changeMerge e.slot (fun m =>
            { m with state := .taken, ref := some h.ref, deadline := after s.tick confirmationWait }) r.1)))
  else mergeFull (giveUpMerge e r.1)

/-! ### Half axles (R70, R75) -/

/-- A half axle on the L edge, taken by the ceder (R70). -/
def cederHalf (w : OwnWheel) (s : State) : State :=
  match cederNeighbour s with
  | none => handPart w none s
  | some p =>
    if mergeCap ≤ s.former.merges.length then mergeFull (handPart w none s)
    else
      let ref := nextRef s.former
      let r := offerUrgent (mkFrame .halfAxle p.station (halfPayload ref w)) (advanceRef ref s)
      if r.2 then
        let slot := freeSlot s.former.merges
        let a := handAxle (pendingAxle w (some ref) slot) r.1
        match a.2 with
        | some number =>
          addMerge { slot := slot, state := .offered, partner := p.station, ref := some ref,
                     deadline := after s.tick cederWait, vehicle := number, own := w } a.1
        | none => a.1
      else mergeFull (handPart w (some ref) r.1)

/-- A half axle on the R edge, taken by the owner; once placed it is matched against the peer halves, the oldest first
(R75, R76). -/
def ownerHalf (w : OwnWheel) (s : State) : State :=
  match ownerNeighbour s with
  | none => handPart w none s
  | some p =>
    if mergeCap ≤ s.former.merges.length then mergeFull (handPart w none s)
    else
      let slot := freeSlot s.former.merges
      let a := handAxle (pendingAxle w none slot) s
      match a.2 with
      | some number =>
        let e : MergeEntry := { slot := slot, state := .waiting, partner := p.station, ref := none,
                                deadline := after s.tick ownerWait, vehicle := number, own := w }
        match (addMerge e a.1).former.halves.find? (halfMatches (addMerge e a.1) e) with
        | some h => takeMerge e h (addMerge e a.1)
        | none => addMerge e a.1
      | none => a.1

/-- A lone wheel is taken according to the neighbour strap of its edge (R65). -/
def takeLone (w : WeighedHit) (s : State) : State :=
  match w.hit.path with
  | .left => if s.straps.leftNeighbour then cederHalf (ownWheel w) s else handPart (ownWheel w) none s
  | .right => if s.straps.rightNeighbour then ownerHalf (ownWheel w) s else handPart (ownWheel w) none s

/-! ### The holding lists (R60 to R64) -/

/-- The pairing window of a wheel of speed v: skew × 16000 / v rounded down, at least 16 (R61). -/
def pairingWindow (skew v : Nat) : Nat := max windowMin (skew * halfTicksPerSecond / v)

/-- A wheel as it is held (R60, R61). -/
def heldWheel (u : Setup) (w : WeighedHit) : HeldWheel :=
  { wheel := w, window := pairingWindow u.skew w.hit.speed,
    windowEnd := after w.hit.centre (pairingWindow u.skew w.hit.speed) }

/-- The station with one holding list replaced. -/
def withHolding (s : State) (p : Path) (l : List HeldWheel) : State :=
  s.withFormer { s.former with holding := s.former.holding.set p l }

/-- An arriving wheel pairs with a held wheel: centres within the held wheel's window, speeds in agreement (R62). -/
def wheelsPair (w : WeighedHit) (h : HeldWheel) : Bool :=
  within w.hit.centre h.wheel.hit.centre h.window && speedsAgree w.hit.speed h.wheel.hit.speed

/-- The FULL axle of an arriving and a held wheel, each on the side of its path. -/
def pairAxle (w : WeighedHit) (h : HeldWheel) : Axle :=
  match w.hit.path with
  | .left => fullAxle (ownWheel w) (ownWheel h.wheel)
  | .right => fullAxle (ownWheel h.wheel) (ownWheel w)

/-- A wheel that did not pair is held; at a full list the oldest wheel is first forced lone (R63). -/
def holdWheel (w : WeighedHit) (s : State) : State :=
  let p := w.hit.path
  let forced :=
    if (s.former.holding.get p).length < holdingCap then s
    else
      match s.former.holding.get p with
      | h :: rest => takeLone h.wheel (withHolding s p rest)
      | [] => s
  withHolding forced p (forced.former.holding.get p ++ [heldWheel s.setup w])

/-- A wheel reaches the axle former: in RUN it pairs or is held, before RUN it is discarded (R60, R62). -/
def receiveWheel (w : WeighedHit) (s : State) : State :=
  if inRun s then
    match takeFirst (wheelsPair w) (s.former.holding.get (otherPath w.hit.path)) with
    | some (h, rest) => (handAxle (pairAxle w h) (withHolding s (otherPath w.hit.path) rest)).1
    | none => holdWheel w s
  else s

/-- A wheel hit of the other path whose B-centre lies within the window is in the weigh unit (R64). -/
def weighHolds (s : State) (p : Path) (h : HeldWheel) : Bool :=
  (s.weigh.queue ++ (s.weigh.inFlight.map Weighing.hit).toList).any fun x =>
    decide (x.path = otherPath p) && within x.centre h.wheel.hit.centre h.window

/-- An A record of the other path still holds a wheel: its span reaches into h − W..h + W and ends no earlier than station
time (R64). -/
def recordHolds (s : State) (h : HeldWheel) (a : PulseRec) : Bool :=
  reached (after h.wheel.hit.centre h.window) (spanBegin s.setup.spacing a)
    && reached (spanEnd s.setup.spacing a) (h.wheel.hit.centre - BitVec.ofNat 32 h.window)
    && reached (spanEnd s.setup.spacing a) (inHalfTicks s.tick)

/-- A held wheel can be declared lone (R64). -/
def canDeclare (s : State) (p : Path) (h : HeldWheel) : Bool :=
  isLater (inHalfTicks s.tick) h.windowEnd && !weighHolds s p h
    && !(s.pairer.get (otherPath p)).any (recordHolds s h)

end Sys2Proof.Machine
end

