-- ==== Sys2Proof/Machine/Temperature.lean ====
section
/-! DEFINITION. The temperature unit (chapter 3): probe records, the choice of the effective temperature, the figures since
the last report, and the commands and timers that act on them. -/

namespace Sys2Proof.Machine

open Sys2Proof

/-! ### A reading and its probe record (R43 to R49) -/

/-- A reading taken for a probe is bad (R43). -/
def readingBad (p : Probe) (ok : Bool) (v : Int) : Bool :=
  !ok || !tempInRange v ||
    (decide (p.state = .valid) && ((filtered p).map fun f => decide (deviationMax < (v - f).natAbs)).getD false)

/-- A value enters the ring (R45). -/
def pushRing (ring : List Int) (v : Int) : List Int := pushBounded ringCap ring v

/-- A good reading at tick t (R44 to R49). -/
def goodReading (t : Tick) (v : Int) (p : Probe) : Probe :=
  let q := { p with ring := pushRing p.ring v, bad := 0, good := min probeRecovery (p.good + 1), lastGood := some t }
  match p.state with
  | .waiting => if waitingTarget ≤ q.ring.length then { q with state := .valid } else q
  | .stale => { q with state := .valid }
  | .fault => if probeRecovery ≤ q.good then { q with state := .valid } else q
  | .valid | .absent => q

/-- A bad reading (R44, R46 to R49). -/
def badReading (p : Probe) : Probe :=
  let q := { p with good := 0, bad := min badLimit (p.bad + 1) }
  match p.state with
  | .valid | .stale => if badLimit ≤ q.bad then { q with state := .fault, ring := [], bad := 0, good := 0 } else q
  | .fault => { q with ring := [] }
  | .waiting | .absent => q

/-! ### The choice of the effective temperature (R50 to R53) -/

/-- PROBE, ALT_PROBE and PEER are the live sources (R50). -/
def isLive : Source → Bool
  | .probe | .altProbe | .peer => true
  | .held | .default => false

/-- A peer is fresh (R51). -/
def isFresh (s : State) (p : Peer) : Bool :=
  decide (p.group = s.setup.group) && (decide (p.state = .heard) || decide (p.state = .aligned))
    && decide (sdiff s.tick p.last ≤ (freshnessTime : Int))
    && (decide (p.source = .probe) || decide (p.source = .altProbe)) && tempInRange p.temp

/-- The filtered value of a probe while it is VALID. -/
def validValue (p : Probe) : Option Int := if p.state = .valid then filtered p else none

/-- The greatest age of the last beacons of peers. -/
def oldestAge (t : Tick) : List Peer → Int
  | [] => 0
  | p :: l => l.foldl (fun m q => max m (sdiff t q.last)) (sdiff t p.last)

/-- The expiry of freshness: 24,001 ticks after the earliest last-beacon tick of the fresh peers (R52). -/
def freshExpiryOf (t : Tick) (l : List Peer) : Tick :=
  t - BitVec.ofInt 32 (oldestAge t l) + BitVec.ofNat 32 (freshnessTime + 1)

/-- The live choice, if any: value, source, and the freshness expiry that goes with PEER (R50, R52). -/
def liveChoice (s : State) : Option (Int × Source × Option Tick) :=
  match s.setup.weighing.bind fun i => validValue (s.temp.probes.get i) with
  | some v => some (v, .probe, none)
  | none =>
    match s.setup.weighing.bind fun i => validValue (s.temp.probes.get (otherProbe i)) with
    | some v => some (v, .altProbe, none)
    | none =>
      let fresh := s.peers.filter (isFresh s)
      if fresh.isEmpty then none
      else some (meanInt (fresh.map Peer.temp), .peer, some (freshExpiryOf s.tick fresh))

/-- The unit with an effective temperature chosen; the minimum and maximum follow it (R56). -/
def chosen (u : TempUnit) (v : Int) (x : Source) : TempUnit :=
  { u with value := v, source := x, least := min u.least v, greatest := max u.greatest v }

/-- The unit after a re-choice with a live choice or none, at tick t with the default temperature (R50, R53). -/
def choose (u : TempUnit) (live : Option (Int × Source × Option Tick)) (t : Tick) (dflt : Int) : TempUnit :=
  match live with
  | some (v, x, fresh) => { chosen u v x with held := some v, heldExpiry := none, freshExpiry := fresh }
  | none =>
    match u.held with
    | some h =>
      { chosen u h .held with
        heldExpiry := if isLive u.source then some (after t heldTime) else u.heldExpiry
        freshExpiry := none }
    | none => { chosen u dflt .default with freshExpiry := none }

/-- The effective temperature is re-chosen (R52). -/
def rechoose (s : State) : State := s.withTemp (choose s.temp (liveChoice s) s.tick s.setup.defaultTemp)

/-- One probe record changed. -/
def changeProbe (i : ProbeIx) (g : Probe → Probe) (s : State) : State :=
  s.withTemp { s.temp with probes := s.temp.probes.set i (g (s.temp.probes.get i)) }

/-- A good reading counts for the next report (R56). -/
def countReading (s : State) : State := s.withTemp { s.temp with goodReadings := satInc s.temp.goodReadings }

/-- A reading that passed its check, taken for a probe (R41, R43, R44, R56). -/
def takeReading (i : ProbeIx) (ok : Bool) (v : Int) (s : State) : State :=
  if readingBad (s.temp.probes.get i) ok v then rechoose (changeProbe i badReading s)
  else rechoose (countReading (changeProbe i (goodReading s.tick v) s))

/-! ### The TEMPERATURE report (R56 to R58) -/

/-- The figures since the last report start anew (R56). -/
def resetFigures (s : State) : State :=
  s.withTemp { s.temp with least := s.temp.value, greatest := s.temp.value, goodReadings := 0 }

/-- A TEMPERATURE report is formed and offered; admitted, it resets the figures (R56). -/
def offerTemperature (s : State) : State :=
  let r := offerPlain (temperatureFrame s) s
  if r.2 then resetFigures r.1 else r.1

/-! ### The commands -/

/-- PROBE_READING (R41): a reading that fails its check, comes before SELFTEST or is of an ABSENT probe changes nothing. -/
def execProbeReading (head : Byte) (value : BitVec 16) (check : Byte) (s : State) : Host.Outcome State Fault Refusal :=
  if working s && readingPasses head value check && decide ((s.temp.probes.get (readingProbe head)).state ≠ .absent) then
    .next (takeReading (readingProbe head) (readingOk head) value.toInt s)
  else .next s

/-- The staleness timer of a VALID probe has been reached (R47). -/
def stalenessDue (s : State) (i : ProbeIx) : Bool :=
  decide ((s.temp.probes.get i).state = .valid) &&
    ((s.temp.probes.get i).lastGood.map fun t => reached s.tick (after t stalenessTime)).getD false

/-- STALENESS_EXPIRY (R47). -/
def execStalenessExpiry (i : ProbeIx) (s : State) : Host.Outcome State Fault Refusal :=
  if stalenessDue s i then .next (rechoose (changeProbe i (fun p => { p with state := .stale }) s)) else .next s

/-- An expiry is set and has been reached. -/
def isDue (s : State) (e : Option Tick) : Bool := (e.map fun t => reached s.tick t).getD false

/-- FRESHNESS_EXPIRY (R52). -/
def execFreshnessExpiry (s : State) : Host.Outcome State Fault Refusal :=
  if isDue s s.temp.freshExpiry then .next (rechoose s) else .next s

/-- HELD_TIMER_EXPIRY (R53): the held value becomes none and the timer is stopped, then the re-choice. -/
def execHeldTimerExpiry (s : State) : Host.Outcome State Fault Refusal :=
  if isDue s s.temp.heldExpiry then
    .next (rechoose (s.withTemp { s.temp with held := none, heldExpiry := none }))
  else .next s

end Sys2Proof.Machine
end

