-- ==== Sys2Proof/Machine/Reports.lean ====
section
/-! DEFINITION. Beacons with the reports that follow them (R57, R101, R118), and the end of the self-test wait (R182). -/

namespace Sys2Proof.Machine

open Sys2Proof

/-- The report count rises at a beacon; at the report interval a TEMPERATURE report is offered and the count returns to 0.
With interval 0 the count is not kept (R57). -/
def scheduledReport (s : State) : State :=
  if s.setup.interval = 0 then s
  else if s.setup.interval ≤ s.ctl.reportCount + 1 then offerTemperature (s.withCtl { s.ctl with reportCount := 0 })
  else s.withCtl { s.ctl with reportCount := s.ctl.reportCount + 1 }

/-- While the run count is above 0 a LANE_CLEAR frame is offered and the count falls by one (R101). -/
def laneClearStep (s : State) : State :=
  if 0 < s.veh.runCount then
    let r := (offerPlain (laneClearFrame s) s).1
    r.withVeh { r.veh with runCount := s.veh.runCount - 1 }
  else s

/-- A beacon is formed and offered, then the TEMPERATURE report when due, then the LANE_CLEAR frame of a run (R118). -/
def formBeacon (s : State) : State := laneClearStep (scheduledReport (offerBeacon (beaconFrame s) s))

/-- The end of the self-test wait: the findings are recorded, the START report is offered, the first beacon is formed and
its timer started, and the station enters SETTLING (R118, R182). -/
def endSelftest (silent : Bool) (s : State) : State :=
  let a := s.withCtl { s.ctl with findings := { silent := silent, failed := s.cal.failed }, waitExpiry := none }
  let b := formBeacon (offerPlain (startFrame a) a).1
  b.withCtl { b.ctl with beaconExpiry := some (after s.tick beaconPeriod), station := .settling }

/-- BEACON_TIMER_EXPIRY (R118): the next expiry is one period after the one just reached. -/
def execBeaconTimerExpiry (s : State) : Host.Outcome State Fault Refusal :=
  match s.ctl.beaconExpiry with
  | some t =>
    if reached s.tick t then
      .next (formBeacon (s.withCtl { s.ctl with beaconExpiry := some (after t beaconPeriod) }))
    else .next s
  | none => .next s

end Sys2Proof.Machine
end

