-- ==== Sys2Proof/Machine/Sampling.lean ====
section
/-! DEFINITION. The main path from the sample port to the axle former: strobes and sample sets, the hand-over of pulse
records, the weigh queue and weighings, and the self-test wait (R1 to R40, R182). -/

namespace Sys2Proof.Machine

open Sys2Proof

/-! ### The weigh queue (R27, R28) -/

/-- A weighing of a wheel hit as it takes temperature, tables, limit and flag at its beginning (R28). -/
def newWeighing (s : State) (h : WheelHit) : Weighing :=
  { hit := h, begun := s.tick, temp := s.temp.value, source := s.temp.source, gain := s.cal.working.gain,
    band := s.cal.working.band, temps := s.cal.working.temps,
    limit := (s.cal.working.screen.map ScreenRec.limit).getD defaultLimit, calibrated := s.cal.calibrated }

/-- A weighing begins whenever the unit is idle and the queue holds a wheel hit (R28). -/
def beginWeighing (s : State) : State :=
  match s.weigh.inFlight, s.weigh.queue with
  | none, h :: rest => s.withWeigh { queue := rest, inFlight := some (newWeighing s h) }
  | _, _ => s

/-- A wheel hit enters the weigh queue, or at a full queue bypasses weighing (R27). -/
def handHit (h : WheelHit) (s : State) : State :=
  if s.weigh.queue.length < weighCap then
    beginWeighing (s.withWeigh { s.weigh with queue := s.weigh.queue ++ [h] })
  else receiveWheel { hit := h, data := bypassOutcome } (raise .queueLoss (bump .weighLoss s))

/-! ### The speed pairer (R21, R22, R24) -/

/-- The station with one A-pending list replaced. -/
def withAPending (s : State) (p : Path) (l : List PulseRec) : State := s.withPairer (s.pairer.set p l)

/-- A line-A record is appended; at a full list the oldest is first dropped as an orphan (R21). -/
def handA (r : PulseRec) (s : State) : State :=
  let l := s.pairer.get (pathOf r.chan)
  withAPending (if l.length < pendingCap then s else bump .orphanA s) (pathOf r.chan) (pushBounded pendingCap l r)

/-- A line-B record walks the A-pending list of its path and forms a wheel hit or is an orphan (R22, R24). -/
def handB (r : PulseRec) (s : State) : State :=
  let w := walk s.setup.spacing r.centre (s.pairer.get (pathOf r.chan))
  let t := bumpTimes .orphanA w.dropped (withAPending s (pathOf r.chan) w.rest)
  match w.pair with
  | some (a, v) => handHit { path := pathOf r.chan, speed := v, aPulse := a, bPulse := r } t
  | none => bump .orphanB t

/-- A pulse record is handed to the speed pairer. -/
def handRecord (r : Option PulseRec) (s : State) : State :=
  match r with
  | some r => if onLineA r.chan then handA r s else handB r s
  | none => s

/-! ### One set of samples (R4) -/

/-- The end of an event that can change channel states, the vehicle table or the presence state: the tests of R183 and then
of R101. -/
def endEvent (before s : State) : State := startRun before (endSettling (s.det.all settled) s)

/-- The sample of one channel reaches its detector, and the record of the pulse it ends is handed over. The sample is one
event, with the tests that end an event (R4, R101, R183). -/
def takeChannel (t : Tick) (ch : Chan) (x : Sample) (s : State) : State :=
  let r := takeSample s.setup ch t x (s.det.get ch)
  endEvent s (handRecord r.2 (s.withDet (s.det.set ch r.1)))

/-- The four samples of one set of tick t reach the four detectors, one event per channel (R4). The events come in the order
in which R4 hands over the pulse records: DEDUCED, assumption 35. -/
def takeSet (t : Tick) (x : Quad Sample) (s : State) : State :=
  takeChannel t .br x.br (takeChannel t .bl x.bl (takeChannel t .ar x.ar (takeChannel t .al x.al s)))

/-- Four missing samples. -/
def missingSet : Quad Sample := ⟨.missing, .missing, .missing, .missing⟩

/-- The four good samples of a set that passed its check, routed by the channel map (R3 to R5). -/
def goodSet (u : Setup) (v0 v1 v2 v3 : BitVec 16) (tags : Byte) : Quad Sample :=
  let r := routing u
  ⟨inputSample v0 v1 v2 v3 tags r.al, inputSample v0 v1 v2 v3 tags r.ar, inputSample v0 v1 v2 v3 tags r.bl,
   inputSample v0 v1 v2 v3 tags r.br⟩

/-! ### The commands -/

/-- The tick counter advances by one; the oldest frame of a non-empty receive queue is due for delivery when the counter
becomes even (R1, R137). -/
def advanceTick (s : State) : State :=
  let t := s.tick + 1
  (s.withTick t).withLink { s.link with due := decide (t.toNat % 2 = 0) && !s.link.rxQueue.isEmpty }

/-- A strobe: a set still outstanding is declared missing, and the set of the new tick is requested (R1, R2). -/
def strobeEffect (s : State) : State :=
  let a := advanceTick s
  match s.outstanding with
  | some t => takeSet t missingSet (a.withOutstanding (some a.tick))
  | none => a.withOutstanding (some a.tick)

/-- STROBE (R1): the counter advances from the end of the reset onward; from SELFTEST on the advance strobes. -/
def execStrobe (s : State) : Host.Outcome State Fault Refusal :=
  match s.ctl.station with
  | .inReset _ => .next s
  | .start => .next (s.withTick (s.tick + 1))
  | .selftest | .settling | .run => .next (strobeEffect s)

/-- The first good set ends the self-test wait once its four samples are taken (R182, assumption 30); the test of R183 at the
entry into SETTLING follows. -/
def firstGoodSet (s : State) : State := if s.ctl.station = .selftest then endEvent s (endSelftest false s) else s

/-- SAMPLE_SET (R2, R3): without an outstanding request the set is discarded. -/
def execSampleSet (v0 v1 v2 v3 : BitVec 16) (tags check : Byte) (s : State) : Host.Outcome State Fault Refusal :=
  match s.outstanding with
  | some t =>
    let a := s.withOutstanding none
    if setPasses v0 v1 v2 v3 tags check then
      .next (firstGoodSet (takeSet t (goodSet s.setup v0 v1 v2 v3 tags) a))
    else .next (takeSet t missingSet a)
  | none => .next s

/-- The four detectors at SAMPLE_PORT_SILENT (R12). -/
def silenceAll (q : Quad Detector) : Quad Detector :=
  ⟨silenceDetector q.al, silenceDetector q.ar, silenceDetector q.bl, silenceDetector q.br⟩

/-- SELFTEST_WAIT_EXPIRY (R12, R182). -/
def execSelftestWaitExpiry (s : State) : Host.Outcome State Fault Refusal :=
  if decide (s.ctl.station = .selftest) && isDue s s.ctl.waitExpiry then
    .next (endEvent s (endSelftest true (s.withDet (silenceAll s.det))))
  else .next s

/-- A weighing that completes: the outcome is filled, the wheel hit goes to the axle former, the unit is idle and the next
weighing begins (R30). -/
def completeWeighing (w : Weighing) (s : State) : State :=
  beginWeighing
    (receiveWheel { hit := w.hit, data := weighingOutcome w } (s.withWeigh { s.weigh with inFlight := none }))

/-- WEIGHING_COMPLETE (R30): no earlier than 1 tick after the beginning. -/
def execWeighingComplete (s : State) : Host.Outcome State Fault Refusal :=
  match s.weigh.inFlight with
  | some w => if isLater s.tick w.begun then .next (endEvent s (completeWeighing w s)) else .next s
  | none => .next s

end Sys2Proof.Machine
end

