-- ==== Sys2Proof/Machine/Commands.lean ====
section
/-! DEFINITION. The commands of the site link as the station takes them from the receive queue (R19, R58, R110, R151, R161 to
R166, R177 to R179). -/

namespace Sys2Proof.Machine

open Sys2Proof

/-! ### The tests made before the rule that owns a command (R177) -/

/-- The station takes the oldest received frame as the command of that kind code, or the command is not at the head of the
queue and nothing happens (R137, R177). -/
def onCommand (kind : Byte) (effect : RxFrame → State → State) (s : State) : Host.Outcome State Fault Refusal :=
  match deliver kind s with
  | some (f, t) => .next (effect f t)
  | none => .next s

/-- The reply FIELD to a malformed command; a broadcast one gets none (R177). -/
def refuseField (f : RxFrame) (s : State) : State := replyTo f .field noTable s

/-- The reply FIELD to a malformed table command; its table byte is the payload's first byte, or FF for an empty payload
(R178, assumption 16). -/
def refuseTable (f : RxFrame) (s : State) : State := replyTo f .field (f.payload.head?.getD noTable) s

/-- A command without payload is taken, acted on and answered DONE; with a payload it is refused FIELD (R177). -/
def plainCommand (effect : State → State) (f : RxFrame) (s : State) : State :=
  if f.payload.isEmpty then replyTo f .done noTable (effect s) else refuseField f s

/-- A command to the calibration memory without a table id: with a payload it is refused FIELD; a broadcast one is ignored
(R161, R177). -/
def memoryCommand (effect : RxFrame → State → State) (f : RxFrame) (s : State) : State :=
  if f.payload.isEmpty = false then refuseField f s
  else if addressed f then effect f s
  else s

/-! ### The link controller: HOLD and RESUME (R151) -/

/-- The station becomes or stays held, its hold timer started anew. -/
def holdNow (s : State) : State := s.withLink { s.link with hold := some (after s.tick holdTime) }

/-- The held state ends and the hold timer is stopped. -/
def endHold (s : State) : State := s.withLink { s.link with hold := none }

/-- HOLD (R151). -/
def execHold (s : State) : Host.Outcome State Fault Refusal := onCommand 0x30 (plainCommand holdNow) s

/-- RESUME (R151). -/
def execResume (s : State) : Host.Outcome State Fault Refusal := onCommand 0x31 (plainCommand endHold) s

/-- HOLD_TIMER_EXPIRY (R151). -/
def execHoldTimerExpiry (s : State) : Host.Outcome State Fault Refusal :=
  if isDue s s.link.hold then .next (endHold s) else .next s

/-! ### Station control, screening and the detectors (R19, R58, R110) -/

/-- TEMP_REQUEST (R58). -/
def execTempRequest (s : State) : Host.Outcome State Fault Refusal := onCommand 0x32 (plainCommand offerTemperature) s

/-- A SCREEN command sets the screening flag to the value it carries, 0 or 1 (R110, R177). -/
def takeScreen (f : RxFrame) (s : State) : State :=
  match f.payload with
  | [v] => if 1 < v.toNat then refuseField f s else replyTo f .done noTable (s.withScreenOn (decide (v = 1)))
  | _ => refuseField f s

/-- SCREEN (R110). -/
def execScreen (s : State) : Host.Outcome State Fault Refusal := onCommand 0x39 takeScreen s

/-- The four detectors after a REZERO that names the channels of bits 0 to 3 (R19, R177). -/
def rezeroed (names : Byte) (q : Quad Detector) : Quad Detector :=
  { al := if names.getLsbD 0 then rezeroDetector q.al else q.al
    ar := if names.getLsbD 1 then rezeroDetector q.ar else q.ar
    bl := if names.getLsbD 2 then rezeroDetector q.bl else q.bl
    br := if names.getLsbD 3 then rezeroDetector q.br else q.br }

/-- A REZERO names no channel, or sets a bit above bit 3 (R177). -/
def rezeroMalformed (names : Byte) : Bool := decide (names = 0) || decide (15 < names.toNat)

/-- A REZERO command (R19, R177). -/
def takeRezero (f : RxFrame) (s : State) : State :=
  match f.payload with
  | [b] =>
    if rezeroMalformed b then refuseField f s
    else endEvent s (replyTo f .done noTable (s.withDet (rezeroed b s.det)))
  | _ => refuseField f s

/-- REZERO (R19). -/
def execRezero (s : State) : Host.Outcome State Fault Refusal := onCommand 0x38 takeRezero s

/-! ### The calibration memory (R161 to R166) -/

/-- A TABLE_READ with its payload of three bytes (R177); a broadcast one is ignored (R161). -/
def takeTableRead (f : RxFrame) (s : State) : State :=
  match f.payload with
  | [t, start, count] => if addressed f then tableRead f t.toNat start.toNat count.toNat s else s
  | _ => refuseTable f s

/-- TABLE_READ (R164). -/
def execTableRead (s : State) : Host.Outcome State Fault Refusal := onCommand 0x33 takeTableRead s

/-- A TABLE_WRITE with its two fixed bytes and its entry (R177). -/
def takeTableWrite (f : RxFrame) (s : State) : State :=
  match f.payload with
  | t :: index :: entry => if addressed f then tableWrite f t.toNat index.toNat entry s else s
  | _ => refuseTable f s

/-- TABLE_WRITE (R162). -/
def execTableWrite (s : State) : Host.Outcome State Fault Refusal := onCommand 0x34 takeTableWrite s

/-- A TABLE_CUT with its payload of two bytes (R177). -/
def takeTableCut (f : RxFrame) (s : State) : State :=
  match f.payload with
  | [t, count] => if addressed f then tableCut f t.toNat count.toNat s else s
  | _ => refuseTable f s

/-- TABLE_CUT (R163). -/
def execTableCut (s : State) : Host.Outcome State Fault Refusal := onCommand 0x35 takeTableCut s

/-- LOCK (R165). -/
def execLock (s : State) : Host.Outcome State Fault Refusal := onCommand 0x36 (memoryCommand takeLock) s

/-- ERASE (R166). -/
def execErase (s : State) : Host.Outcome State Fault Refusal := onCommand 0x37 (memoryCommand takeErase) s

/-! ### RESTART (R179) -/

/-- The REPLY DONE of an addressed RESTART, marked as one that a pending restart waits for. It is the only REPLY so marked:
DESIGN CHOICE, assumption 34. -/
def restartReplyFrame (f : RxFrame) : TxFrame := { replyFrame f.source f.kind .done noTable with restartReply := true }

/-- A RESTART makes a restart pending; an addressed one offers its REPLY at once (R179). A malformed RESTART is refused FIELD,
and a restart already pending does not wait for that REPLY: DESIGN CHOICE, assumption 34. -/
def takeRestart (f : RxFrame) (s : State) : State :=
  if f.payload.isEmpty then
    let t := s.withCtl { s.ctl with restartPending := true }
    if addressed f then (offerPlain (restartReplyFrame f) t).1 else t
  else refuseField f s

/-- RESTART (R179). -/
def execRestart (s : State) : Host.Outcome State Fault Refusal := onCommand 0x3A takeRestart s

end Sys2Proof.Machine
end

