-- ==== Sys2Proof/Machine/Edges.lean ====
section
/-! DEFINITION. The commands of the axle former: lone declarations, the waits of the merge table, and the frames of the
lane-edge merge (R64, R70 to R83). -/

namespace Sys2Proof.Machine

open Sys2Proof

/-- LONE_DECLARATION (R64): the oldest wheel of the list that can be declared lone leaves it and is taken as R65 states. -/
def execLoneDeclaration (p : Path) (s : State) : Host.Outcome State Fault Refusal :=
  match takeFirst (canDeclare s p) (s.former.holding.get p) with
  | some (h, rest) => .next (endEvent s (takeLone h.wheel (withHolding s p rest)))
  | none => .next s

/-- The merge-table entry in a place, in one of two states, whose deadline has been reached. -/
def dueMerge (s : State) (slot : Nat) (a b : MergeState) : Option MergeEntry :=
  s.former.merges.find? fun e =>
    decide (e.slot = slot) && (decide (e.state = a) || decide (e.state = b)) && reached s.tick e.deadline

/-- CEDER_WAIT_EXPIRY (R73): an OFFERED axle becomes PARTIAL with its reference; a CEDED entry is freed. -/
def execCederWaitExpiry (slot : Nat) (s : State) : Host.Outcome State Fault Refusal :=
  match dueMerge s slot .offered .ceded with
  | some e =>
    if e.state = .offered then .next (endEvent s (giveUpMerge e s)) else .next (endEvent s (freeMerge e.slot s))
  | none => .next s

/-- OWNER_WAIT_EXPIRY (R78): a WAITING entry is freed and its axle becomes PARTIAL. -/
def execOwnerWaitExpiry (slot : Nat) (s : State) : Host.Outcome State Fault Refusal :=
  match dueMerge s slot .waiting .waiting with
  | some e => .next (endEvent s (giveUpMerge e s))
  | none => .next s

/-- A TAKEN entry is freed, its axle changed in its place and unlinked, and its vehicle leaves CLOSING if it can. -/
def endTaken (e : MergeEntry) (g : Axle → Axle) (s : State) : State :=
  leaveClosing e.vehicle (freeMerge e.slot (changeAxle e g s))

/-- CONFIRMATION_WAIT_EXPIRY (R81): the axle stays MERGED and is flagged UNCONFIRMED. -/
def execConfirmationWaitExpiry (slot : Nat) (s : State) : Host.Outcome State Fault Refusal :=
  match dueMerge s slot .taken .taken with
  | some e =>
    .next (endEvent s (endTaken e (fun a => { a with unconfirmed := true, link := none }) (bump .unconfirmed s)))
  | none => .next s

/-- PEER_HALF_EXPIRY (R74): an entry leaves the peer-half table without a count. -/
def execPeerHalfExpiry (sender ref : Byte) (s : State) : Host.Outcome State Fault Refusal :=
  if s.former.halves.any fun h => halfIs sender ref h && reached s.tick h.expiry then .next (dropHalf sender ref s)
  else .next s

/-- A peer half with its centre converted to own half-ticks with the sender's offset (R74, R128). -/
def peerHalfOf (s : State) (p : Peer) (f : RxFrame) : PeerHalf :=
  { sender := f.source
    ref := byteAt f.payload 0
    centre := BitVec.ofNat 32 (numAt f.payload 2 4) - (p.offset + p.offset)
    speed := mmPerSecond (numAt f.payload 6 2)
    data := halfWheel f.payload
    expiry := after s.tick peerHalfHold }

/-- A peer half enters its table: in place of one with the same sender and reference, else at the newest end; at a full
table the oldest is first displaced and counted (R74). -/
def enterHalf (h : PeerHalf) (s : State) : State :=
  if s.former.halves.any (halfIs h.sender h.ref) then
    s.withFormer { s.former with halves := changeFirst (halfIs h.sender h.ref) (fun _ => h) s.former.halves }
  else
    let t := if s.former.halves.length < halvesCap then s else bump .halvesDropped s
    t.withFormer { s.former with halves := pushBounded halvesCap s.former.halves h }

/-- The peer whose HALF_AXLE may enter: in RUN the R neighbour usable for the owner, with path L in the frame (R74). -/
def halfSender (s : State) (f : RxFrame) : Option Peer :=
  if inRun s && !halfMalformed f.payload && decide (byteAt f.payload 1 = 0) then
    (ownerNeighbour s).filter fun p => decide (p.station = f.source)
  else none

/-- The oldest WAITING entry that a peer half matches (R77). -/
def waitingFor (h : PeerHalf) (s : State) : Option MergeEntry :=
  s.former.merges.find? fun e => decide (e.state = .waiting) && halfMatches s e h

/-- A HALF_AXLE is taken: it enters the peer-half table and is matched, or it is dropped and counted (R74, R77). -/
def takeHalfAxle (f : RxFrame) (s : State) : State :=
  match halfSender s f with
  | some p =>
    let h := peerHalfOf s p f
    match waitingFor h (enterHalf h s) with
    | some e => takeMerge e h (enterHalf h s)
    | none => enterHalf h s
  | none => bump .halvesDropped s

/-- HALF_AXLE_RECEIVED (R74). -/
def execHalfAxleReceived (s : State) : Host.Outcome State Fault Refusal :=
  match deliver 0x10 s with
  | some (f, t) => .next (endEvent s (takeHalfAxle f t))
  | none => .next s

/-- A MERGE frame carries one byte, the reference (R171); another length is malformed (R170). -/
def mergeRef (f : RxFrame) : Option Byte :=
  match f.payload with
  | [r] => some r
  | _ => none

/-- The ceder entry of a reference and partner (R72). -/
def cederEntry (s : State) (r partner : Byte) : Option MergeEntry :=
  s.former.merges.find? fun e =>
    (decide (e.state = .offered) || decide (e.state = .ceded)) && decide (e.ref = some r) && decide (e.partner = partner)

/-- A MERGE frame with a reference, offered to a station. -/
def sendMerge (k : FrameKind) (dst r : Byte) (s : State) : State := (offerUrgent (mkFrame k dst [r]) s).1

/-- A MERGE_TAKE is taken (R72): an OFFERED axle is ceded, a CEDED one is confirmed again, and a TAKE that finds no entry is
refused. -/
def takeTake (r partner : Byte) (s : State) : State :=
  match cederEntry s r partner with
  | some e =>
    if e.state = .offered then
      leaveClosing e.vehicle
        (bump .mergesCeded
          (sendMerge .mergeCede partner r
            (removeAxle e (changeMerge e.slot (fun m => { m with state := .ceded }) s))))
    else sendMerge .mergeCede partner r s
  | none => mergeConflict (sendMerge .mergeRefuse partner r s)

/-- MERGE_TAKE_RECEIVED (R72). -/
def execMergeTakeReceived (s : State) : Host.Outcome State Fault Refusal :=
  match deliver 0x02 s with
  | some (f, t) =>
    match mergeRef f with
    | some r => .next (endEvent s (takeTake r f.source t))
    | none => .next t
  | none => .next s

/-- The TAKEN owner entry of a reference and partner (R79, R80). When two hold the same reference and partner, the oldest is
the one that ends: DESIGN CHOICE, assumption 33, since the rules speak of one entry only. -/
def takenEntry (s : State) (r partner : Byte) : Option MergeEntry :=
  s.former.merges.find? fun e => decide (e.state = .taken) && decide (e.ref = some r) && decide (e.partner = partner)

/-- A MERGE_CEDE is taken (R79): the merge is confirmed, or it is a conflict. Which of two entries it ends is assumption 33. -/
def takeCede (r partner : Byte) (s : State) : State :=
  match takenEntry s r partner with
  | some e => endTaken e (fun a => { a with link := none }) s
  | none => mergeConflict s

/-- MERGE_CEDE_RECEIVED (R79). -/
def execMergeCedeReceived (s : State) : Host.Outcome State Fault Refusal :=
  match deliver 0x03 s with
  | some (f, t) =>
    match mergeRef f with
    | some r => .next (endEvent s (takeCede r f.source t))
    | none => .next t
  | none => .next s

/-- A MERGE_REFUSE is taken (R80): the axle reverts to PARTIAL with its own wheel and reference, and the conflict is counted
in any case. Which of two entries it ends is assumption 33. -/
def takeRefuse (r partner : Byte) (s : State) : State :=
  match takenEntry s r partner with
  | some e =>
    mergeConflict (leaveClosing e.vehicle (freeMerge e.slot (moveAxle e (revertedAxle e.own) false s)))
  | none => mergeConflict s

/-- MERGE_REFUSE_RECEIVED (R80). -/
def execMergeRefuseReceived (s : State) : Host.Outcome State Fault Refusal :=
  match deliver 0x04 s with
  | some (f, t) =>
    match mergeRef f with
    | some r => .next (endEvent s (takeRefuse r f.source t))
    | none => .next t
  | none => .next s

end Sys2Proof.Machine
end

