-- ==== Sys2Proof/Machine/PeerTable.lean ====
section
/-! DEFINITION. The peer table: beacons taken and peers lost (R121 to R131). -/

namespace Sys2Proof.Machine

open Sys2Proof

/-- The measured offset of a beacon: its timestamp minus its receive stamp (R121). -/
def measuredOffset (f : RxFrame) : BitVec 32 := BitVec.ofNat 32 (numAt f.payload 4 4) - f.stamp

/-- The entry of a peer heard for the first time (R124). -/
def newPeer (f : RxFrame) : Peer :=
  { station := f.source, lane := byteAt f.payload 1, group := fieldOf (byteAt f.payload 3) 0 2,
    temp := intAt f.payload 8, source := beaconSource f.payload, last := f.stamp, offset := measuredOffset f,
    previous := none, stable := 0, state := .heard, lossExpiry := after f.stamp lossTime }

/-- The beacon is stable: the entry had a previous offset and the new one lies within 2 ticks of it (R125). The offset
before the beacon is the entry's, which becomes the previous offset (R124). -/
def stableBeacon (p : Peer) (f : RxFrame) : Bool := within (measuredOffset f) p.offset stableChange

/-- The stable count and state of an entry after a beacon (R125). -/
def peerStep (p : Peer) (stable : Bool) : Nat × PeerState :=
  match p.state with
  | .heard | .drifting =>
    if stable then (p.stable + 1, if stableTarget ≤ p.stable + 1 then .aligned else p.state) else (0, p.state)
  | .aligned => if stable then (stableTarget, .aligned) else (0, .drifting)
  | .lost => (0, .heard)

/-- An entry updated by a beacon (R124, R125); a LOST entry is taken as for a new peer. -/
def updatePeer (p : Peer) (f : RxFrame) : Peer :=
  if p.state = .lost then newPeer f
  else
    let r := peerStep p (stableBeacon p f)
    { newPeer f with previous := some p.offset, stable := r.1, state := r.2 }

/-- The age of a LOST entry's last beacon. -/
def ageOf (s : State) (p : Peer) : Int := sdiff s.tick p.last

/-- The LOST entry whose last beacon is oldest (R123). -/
def oldestLost (s : State) : Option Peer :=
  (s.peers.filter fun p => decide (p.state = .lost)).foldl
    (fun m p => match m with
      | none => some p
      | some q => if ageOf s q < ageOf s p then some p else some q) none

/-- A peer entry of a station number. -/
def peerIs (station : Byte) (p : Peer) : Bool := decide (p.station = station)

/-- The peer table takes a beacon (R123). -/
def takeBeacon (f : RxFrame) (s : State) : State :=
  if f.source = broadcast then s
  else if f.source = ownNumber s then raise .duplicateId s
  else if s.peers.any (peerIs f.source) then
    s.withPeers (changeFirst (peerIs f.source) (fun p => updatePeer p f) s.peers)
  else if s.peers.length < peerCap then s.withPeers (s.peers ++ [newPeer f])
  else
    match oldestLost s with
    | some q => s.withPeers (changeFirst (peerIs q.station) (fun _ => newPeer f) s.peers)
    | none => raise .peerOverflow s

/-- BEACON_RECEIVED (R123): a malformed beacon is not taken (R170); after one taken the effective temperature is re-chosen
(R52). -/
def execBeaconReceived (s : State) : Host.Outcome State Fault Refusal :=
  match deliver 0x20 s with
  | some (f, t) => if beaconMalformed f.payload then .next t else .next (rechoose (takeBeacon f t))
  | none => .next s

/-- The entry of a station number can go LOST now (R126). -/
def lossDue (s : State) (station : Byte) (p : Peer) : Bool :=
  peerIs station p && decide (p.state ≠ .lost) && reached s.tick p.lossExpiry

/-- LOSS_EXPIRY (R126). -/
def execLossExpiry (station : Byte) (s : State) : Host.Outcome State Fault Refusal :=
  .next (s.withPeers (changeFirst (lossDue s station) (fun p => { p with state := .lost, stable := 0 }) s.peers))

end Sys2Proof.Machine
end

