-- ==== Sys2Proof/Machine/Vehicles.lean ====
section
/-! DEFINITION. The gap timer and the presence line (R92 to R95). -/

namespace Sys2Proof.Machine

open Sys2Proof

/-- The OPEN entry when its gap timer has been reached (R92). -/
def gapDue (s : State) : Option Vehicle := (openEntry s).filter fun v => isDue s v.gapExpiry

/-- GAP_TIMER_EXPIRY (R92): the OPEN entry goes to CLOSING with cause GAP. -/
def execGapTimerExpiry (s : State) : Host.Outcome State Fault Refusal :=
  match gapDue s with
  | some v => .next (endEvent s (closeEntry v.number .gap s))
  | none => .next s

/-- The station with its presence state replaced. -/
def withPresence (s : State) (p : Presence) : State := s.withVeh { s.veh with presence := some p }

/-- The presence state after the line changes to a level at tick t (the table of R93). -/
def movedPresence (level : LineLevel) (t : Tick) : Presence → Presence
  | .vacant =>
    match level with
    | .occupied => .occupied (after t stuckTime)
    | .vacant => .vacant
  | .occupied e =>
    match level with
    | .occupied => .occupied e
    | .vacant => .vacating (after t debounceTime)
  | .vacating e =>
    match level with
    | .occupied => .occupied (after t stuckTime)
    | .vacant => .vacating e
  | .stuck =>
    match level with
    | .occupied => .stuck
    | .vacant => .vacating (after t debounceTime)

/-- A change of the line moves the presence state; from VACANT to OCCUPIED it ends a lane-clear run (R93, R101). -/
def presenceChange (level : LineLevel) (s : State) : State :=
  match s.veh.presence with
  | some p =>
    let a := withPresence s (movedPresence level s.tick p)
    if p = .vacant ∧ level = .occupied then endRun a else a
  | none => s

/-- PRESENCE_LINE_CHANGE (R93): a level the line already shows is no change. -/
def execPresenceLineChange (level : LineLevel) (s : State) : Host.Outcome State Fault Refusal :=
  if level = s.pins.line then .next s
  else .next (endEvent s (presenceChange level (s.withPins { s.pins with line := level })))

/-- A confirmed vacancy: the OPEN entry goes to CLOSING with cause VACANCY (R93). -/
def confirmVacancy (s : State) : State :=
  match openEntry s with
  | some v => closeEntry v.number .vacancy s
  | none => s

/-- DEBOUNCE_EXPIRY (R93). -/
def execDebounceExpiry (s : State) : Host.Outcome State Fault Refusal :=
  match s.veh.presence with
  | some (.vacating t) =>
    if reached s.tick t then .next (endEvent s (confirmVacancy (withPresence s .vacant))) else .next s
  | _ => .next s

/-- STUCK_EXPIRY (R94). -/
def execStuckExpiry (s : State) : Host.Outcome State Fault Refusal :=
  match s.veh.presence with
  | some (.occupied t) => if reached s.tick t then .next (endEvent s (withPresence s .stuck)) else .next s
  | _ => .next s

end Sys2Proof.Machine
end

