-- ==== Sys2Proof/Machine/Reset.lean ====
section
/-! DEFINITION. The four kinds of reset, the end of their causes, and START (R179 to R183). -/

namespace Sys2Proof.Machine

open Sys2Proof

/-! ### What every kind of reset does (R7, R31, R44, R60, R69, R74, R84, R110, R124, R152, R160, R180, R186) -/

/-- The calibration memory at a reset: what is non-volatile is kept, a write or cut in flight is abandoned with its open
mark set, and what START derives is given up (R160). That the working copies are absent and the calibrated flag is clear
until START derives them is the model's choice: DESIGN CHOICE, assumption 10. -/
def resetCal (c : CalMemory) : CalMemory :=
  { c with working := .absent, calibrated := false, failed := [], activity := .idle }

/-- Station control at a reset of a kind: the station is held in it (R180). The supply-low count and, until entry into START,
the reset cause are kept. R182 gives the self-test findings at the end of the self-test wait and no value before it; that
SAMPLE_PORT_SILENT is clear and the failed copy empty from the reset until then is the model's: DESIGN CHOICE, assumption 10. -/
def resetCtl (kind : ResetKind) (c : Control) : Control :=
  { station := .inReset kind, resetCause := c.resetCause, supplyLowCount := c.supplyLowCount, findings := ⟨false, []⟩,
    waitExpiry := none, beaconExpiry := none, reportCount := 0, restartPending := false }

/-- Every block takes its value after reset. The straps, the settings in use and the backoff generator stand until START
sets them (R144, R155, R181); the pins and the commands that wait are the outside's. -/
def resetBlocks (kind : ResetKind) (s : State) : State :=
  { s with
    tick := 0
    outstanding := none
    ctl := resetCtl kind s.ctl
    raised := .none
    det := ⟨.reset, .reset, .reset, .reset⟩
    pairer := ⟨[], []⟩
    weigh := ⟨[], none⟩
    temp := .reset
    former := .reset
    veh := .reset
    screenOn := true
    peers := []
    link := { Link.reset with lfsr := s.link.lfsr }
    cal := resetCal s.cal
    counters := .zero }

/-! ### The four resets (R179, R180) -/

/-- The supply-low count of a station. -/
def withSupplyLow (n : Nat) (s : State) : State := s.withCtl { s.ctl with supplyLowCount := n }

/-- The supply stands below its working level. -/
def supplyFalls (s : State) : State := s.withPins { s.pins with supplyBelow := true }

/-- POWER_ON (R180): the supply-low count is set to 0. The supply rises from off and so stands below its working level until
the cause ends. -/
def execPowerOn (s : State) : Host.Outcome State Fault Refusal :=
  .next (supplyFalls (withSupplyLow 0 (resetBlocks .powerOn s)))

/-- SUPPLY_LOW (R180): the supply-low count is raised by one. -/
def execSupplyLow (s : State) : Host.Outcome State Fault Refusal :=
  .next (supplyFalls (withSupplyLow (satInc s.ctl.supplyLowCount) (resetBlocks .supplyLow s)))

/-- RESET_LINE (R180): the supply-low count is left as it was. -/
def execResetLine (s : State) : Host.Outcome State Fault Refusal :=
  .next ((resetBlocks .resetLine s).withPins { s.pins with resetAsserted := true })

/-- The station enters START: the reset cause is recorded and the tick counter begins at 0 (R1, R180). -/
def enterStart (kind : ResetKind) (s : State) : State :=
  (s.withTick 0).withCtl { s.ctl with station := .start, resetCause := kind }

/-- The frames the station holds for sending. -/
def heldFrames (s : State) : List TxFrame := s.link.immediate.toList ++ s.link.queue

/-- The calibration memory is not WRITING. -/
def notWriting (c : CalMemory) : Bool :=
  match c.activity with
  | .writing _ _ _ _ => false
  | .idle | .erasing _ _ => true

/-- A pending restart can be carried out: no REPLY of a RESTART is unresolved, and no write or cut is in flight (R179). The
REPLY is the DONE of a RESTART that was acted on (assumption 34). -/
def restartDue (s : State) : Bool :=
  s.ctl.restartPending && !(heldFrames s).any TxFrame.restartReply && notWriting s.cal

/-- LINK_RESTART (R179): its cause ends with the reset itself, so START follows at once. -/
def execLinkRestart (s : State) : Host.Outcome State Fault Refusal :=
  if restartDue s then .next (enterStart .linkRestart (resetBlocks .linkRestart s)) else .next s

/-! ### The end of a cause (R180) -/

/-- The level that kept the station in reset is gone. -/
def endCause (cause : HeldCause) (s : State) : State :=
  match cause with
  | .line => s.withPins { s.pins with resetAsserted := false }
  | .supply => s.withPins { s.pins with supplyBelow := false }

/-- A station in reset with neither the line asserted nor the supply low enters START. -/
def leaveReset (s : State) : State :=
  match s.ctl.station with
  | .inReset kind => if s.pins.resetAsserted || s.pins.supplyBelow then s else enterStart kind s
  | .start | .selftest | .settling | .run => s

/-- RESET_CAUSE_END (R180). -/
def execResetCauseEnd (cause : HeldCause) (s : State) : Host.Outcome State Fault Refusal :=
  .next (leaveReset (endCause cause s))

/-! ### START (R42, R54, R56, R95, R144, R154, R155, R158, R159, R166, R181) -/

/-- The settings START loads: those of a present SETUP, else the built-in ones (R155). -/
def loadedSetup (c : CalMemory) : Setup :=
  match tableEntries c 0 with
  | e :: _ => setupOf e
  | [] => .builtIn

/-- A probe record at the end of START: WAITING when assigned (R44, R46). -/
def startProbe (assigned : Bool) : Probe := if assigned then { Probe.reset with state := .waiting } else .reset

/-- The temperature unit at the end of START (R54, R56). -/
def startTemp (u : Setup) : TempUnit :=
  { TempUnit.reset with
    probes := ⟨startProbe u.assigned.p0, startProbe u.assigned.p1⟩
    value := u.defaultTemp
    least := u.defaultTemp
    greatest := u.defaultTemp }

/-- The presence state at the end of START from the line as it stands (R95). -/
def startPresence (u : Setup) (line : LineLevel) (t : Tick) : Option Presence :=
  if u.presenceUsed then
    match line with
    | .vacant => some .vacant
    | .occupied => some (.occupied (after t stuckTime))
  else none

/-- The seed of the backoff generator: station number × 4099 + 1 modulo 65,536 (R144). -/
def backoffSeed (station : BitVec 4) : BitVec 16 := BitVec.ofNat 16 (station.toNat * 4099 + 1)

/-- Everything START sets while it works (R181). -/
def startWork (straps : Straps) (s : State) : State :=
  let c := startedCal s.cal
  let u := loadedSetup c
  { s with
    straps := straps
    cal := c
    setup := u
    temp := startTemp u
    veh := { s.veh with presence := startPresence u s.pins.line s.tick }
    link := { s.link with lfsr := backoffSeed straps.station } }

/-- The entry into SELFTEST: the self-test wait begins, and the receive path and the access rounds wait for a quiet gap
(R135, R139, R182). -/
def enterSelftest (s : State) : State :=
  (s.withCtl { s.ctl with station := .selftest, waitExpiry := some (after s.tick selftestWait) }).withLink
    { s.link with rxPath := .waitQuiet }

/-- START_DONE (R181). -/
def execStartDone (straps : Straps) (s : State) : Host.Outcome State Fault Refusal :=
  if s.ctl.station = .start then .next (enterSelftest (startWork straps s)) else .next s

end Sys2Proof.Machine
end

