-- ==== Sys2Proof/Machine/Dispatch.lean ====
section
/-! DEFINITION. The meaning of each command: one arm for each row of the table. -/

namespace Sys2Proof.Machine

open Sys2Proof

/-- The effect of a command on everything but the queue of waiting commands. -/
def exec (i : Instr) (s : State) : Host.Outcome State Fault Refusal :=
  match i with
  | .powerOn => Sys2Proof.Machine.execPowerOn s
  | .supplyLow => Sys2Proof.Machine.execSupplyLow s
  | .resetLine => Sys2Proof.Machine.execResetLine s
  | .linkRestart => Sys2Proof.Machine.execLinkRestart s
  | .startDone straps => Sys2Proof.Machine.execStartDone straps s
  | .strobe => Sys2Proof.Machine.execStrobe s
  | .sampleSet v0 v1 v2 v3 tags check => Sys2Proof.Machine.execSampleSet v0 v1 v2 v3 tags check s
  | .selftestWaitExpiry => Sys2Proof.Machine.execSelftestWaitExpiry s
  | .weighingComplete => Sys2Proof.Machine.execWeighingComplete s
  | .loneDeclaration p => Sys2Proof.Machine.execLoneDeclaration p s
  | .cederWaitExpiry slot => Sys2Proof.Machine.execCederWaitExpiry slot s
  | .ownerWaitExpiry slot => Sys2Proof.Machine.execOwnerWaitExpiry slot s
  | .confirmationWaitExpiry slot => Sys2Proof.Machine.execConfirmationWaitExpiry slot s
  | .peerHalfExpiry sender ref => Sys2Proof.Machine.execPeerHalfExpiry sender ref s
  | .gapTimerExpiry => Sys2Proof.Machine.execGapTimerExpiry s
  | .presenceLineChange level => Sys2Proof.Machine.execPresenceLineChange level s
  | .debounceExpiry => Sys2Proof.Machine.execDebounceExpiry s
  | .stuckExpiry => Sys2Proof.Machine.execStuckExpiry s
  | .probeReading head value check => Sys2Proof.Machine.execProbeReading head value check s
  | .stalenessExpiry probe => Sys2Proof.Machine.execStalenessExpiry probe s
  | .freshnessExpiry => Sys2Proof.Machine.execFreshnessExpiry s
  | .heldTimerExpiry => Sys2Proof.Machine.execHeldTimerExpiry s
  | .beaconTimerExpiry => Sys2Proof.Machine.execBeaconTimerExpiry s
  | .frameComplete kind source dest payload crc => Sys2Proof.Machine.execFrameComplete kind source dest payload crc s
  | .frameBroken cause => Sys2Proof.Machine.execFrameBroken cause s
  | .beaconReceived => Sys2Proof.Machine.execBeaconReceived s
  | .lossExpiry station => Sys2Proof.Machine.execLossExpiry station s
  | .halfAxleReceived => Sys2Proof.Machine.execHalfAxleReceived s
  | .mergeTakeReceived => Sys2Proof.Machine.execMergeTakeReceived s
  | .mergeCedeReceived => Sys2Proof.Machine.execMergeCedeReceived s
  | .mergeRefuseReceived => Sys2Proof.Machine.execMergeRefuseReceived s
  | .slotBegin => Sys2Proof.Machine.execSlotBegin s
  | .collision => Sys2Proof.Machine.execCollision s
  | .transmissionComplete => Sys2Proof.Machine.execTransmissionComplete s
  | .hold => Sys2Proof.Machine.execHold s
  | .resume => Sys2Proof.Machine.execResume s
  | .holdTimerExpiry => Sys2Proof.Machine.execHoldTimerExpiry s
  | .tempRequest => Sys2Proof.Machine.execTempRequest s
  | .screen => Sys2Proof.Machine.execScreen s
  | .rezero => Sys2Proof.Machine.execRezero s
  | .tableRead => Sys2Proof.Machine.execTableRead s
  | .tableWrite => Sys2Proof.Machine.execTableWrite s
  | .tableCut => Sys2Proof.Machine.execTableCut s
  | .lock => Sys2Proof.Machine.execLock s
  | .erase => Sys2Proof.Machine.execErase s
  | .restart => Sys2Proof.Machine.execRestart s
  | .writeComplete => Sys2Proof.Machine.execWriteComplete s
  | .cutComplete => Sys2Proof.Machine.execCutComplete s
  | .eraseComplete => Sys2Proof.Machine.execEraseComplete s
  | .resetCauseEnd cause => Sys2Proof.Machine.execResetCauseEnd cause s
  | .startBitSeen => Sys2Proof.Machine.execStartBitSeen s

end Sys2Proof.Machine
end

