-- ==== Sys2Proof/Safety.lean ====
section
/-! DEFINITION. The terms that statements about the station are made in: which commands are resets, what a quiet station is,
the invariants that every command keeps, and the link states in which a received command is taken and answered. -/

namespace Sys2Proof.Machine

open Sys2Proof

/-! ### Kinds of command -/

/-- The commands that reset the station (R180). -/
def isReset : Instr → Bool
  | .powerOn | .supplyLow | .resetLine | .linkRestart => true
  | _ => false

/-- The commands that can act in START besides a reset: the end of START, the tick, the presence line and the end of a reset
cause (R1, R95, R180, R181). -/
def actsInStart : Instr → Bool
  | .startDone _ | .strobe | .presenceLineChange _ | .resetCauseEnd _ => true
  | c => isReset c

/-! ### A station before SELFTEST (R7, R31, R44, R60, R69, R74, R84, R124, R152, R181) -/

/-- Every block stands at its value after reset; the straps, the settings, the non-volatile memory, the backoff register and
the levels at the pins are free. -/
abbrev Quiet (s : State) : Prop :=
  s.outstanding = none ∧ s.ctl.waitExpiry = none ∧ s.ctl.beaconExpiry = none ∧ s.ctl.restartPending = false ∧
  s.raised = .none ∧ s.det = ⟨.reset, .reset, .reset, .reset⟩ ∧ s.pairer = ⟨[], []⟩ ∧ s.weigh = ⟨[], none⟩ ∧
  s.temp = .reset ∧ s.former = .reset ∧ s.veh = .reset ∧ s.peers = [] ∧
  s.link = { Link.reset with lfsr := s.link.lfsr } ∧ s.cal.activity = .idle ∧ s.counters = .zero

/-- Every block of a station that does not work yet is quiet. -/
abbrev QuietBeforeSelftest (s : State) : Prop := working s = false → Quiet s

/-- Station `t` is what a reset leaves of station `s`: every block at its value after reset; the non-volatile memory, the
straps and the commands that wait are kept (R160, R180). The self-test findings stand clear and empty, the model's choice
(assumption 10). -/
abbrev ResetFrom (s t : State) : Prop :=
  Quiet t ∧ t.screenOn = true ∧ t.ctl.findings = ⟨false, []⟩ ∧ t.ctl.reportCount = 0 ∧ t.cal.tables = s.cal.tables ∧
  t.cal.lock = s.cal.lock ∧ t.cal.eraseMarker = s.cal.eraseMarker ∧ t.pending = s.pending ∧ t.pins.line = s.pins.line

/-! ### Capacities (R21, R27, R45, R60, R69, R74, R84, R122, R137, R147, R186) -/

/-- The number of OPEN entries. -/
def openCount (s : State) : Nat := (s.veh.entries.filter fun v => decide (v.state = .opened)).length

/-- The number of frames in transmission. -/
def sendingCount (s : State) : Nat :=
  (if sendingImmediate s then 1 else 0) + (s.link.queue.filter TxFrame.sending).length

/-- No collection holds more than its capacity, and at most one vehicle entry is OPEN. -/
abbrev WithinCapacity (s : State) : Prop :=
  s.pairer.left.length ≤ pendingCap ∧ s.pairer.right.length ≤ pendingCap ∧ s.weigh.queue.length ≤ weighCap ∧
  s.temp.probes.p0.ring.length ≤ ringCap ∧ s.temp.probes.p1.ring.length ≤ ringCap ∧
  s.former.holding.left.length ≤ holdingCap ∧ s.former.holding.right.length ≤ holdingCap ∧
  s.former.merges.length ≤ mergeCap ∧ s.former.halves.length ≤ halvesCap ∧
  s.veh.entries.length ≤ vehicleCap ∧ (∀ v ∈ s.veh.entries, v.axles.length ≤ axleCap) ∧ openCount s ≤ 1 ∧
  s.peers.length ≤ peerCap ∧ s.link.rxQueue.length ≤ rxCap ∧ s.link.queue.length ≤ txCap

/-- Every counter, the supply-low count among them, fits its 16 bits (R180, R186). -/
abbrev CountersFit (s : State) : Prop := (∀ n ∈ s.counters.values, n ≤ countMax) ∧ s.ctl.supplyLowCount ≤ countMax

/-- The frames held for sending are as the link rules leave them: the immediate slot holds OVERLOAD only, at most one frame
is in transmission, no frame has eight collisions, and the backoff register is not 0 (R143 to R147). -/
abbrev LinkSound (s : State) : Prop :=
  (∀ f ∈ s.link.immediate, f.kind = .overload) ∧ sendingCount s ≤ 1 ∧
  (∀ f ∈ heldFrames s, f.collisions < collisionLimit ∧ f.backoff ≤ 15) ∧ s.link.lfsr ≠ 0

/-- The peer table holds no number twice and not the station's own (R122). -/
abbrev PeersDistinct (s : State) : Prop :=
  (s.peers.map Peer.station).Nodup ∧ ∀ p ∈ s.peers, p.station ≠ ownNumber s

/-- A locked memory writes nothing (R161, R165), and it holds its thirteen tables (R153). -/
abbrev MemorySound (s : State) : Prop :=
  (s.cal.lock = true → notWriting s.cal = true) ∧ s.cal.tables.length = 13

/-- The invariant of the station that every command keeps. -/
abbrev Sound (s : State) : Prop :=
  WithinCapacity s ∧ CountersFit s ∧ LinkSound s ∧ PeersDistinct s ∧ MemorySound s ∧ QuietBeforeSelftest s

/-! ### The settings in use (R155) -/

/-- The ranges and conditions of R155. -/
def settingsInRange (u : Setup) : Bool :=
  inRange 1000 6000 u.spacing && mapOk u.map && inRange 16 8192 u.tOn && inRange 8 (u.tOn - 1) u.tOff && inRange 1 15 u.q
    && inRange 16 8000 u.dmax && inRange 2000 20000 u.maxSpacing && inRange 50 1000 u.skew && weighingOk u
    && inRange 0 3 u.group && tempInRange u.defaultTemp && inRange 0 255 u.interval && inRange 0 255 u.clearCount

/-- A write in flight, if it is one of SETUP, carries an entry that passed its tests. -/
def setupWriteOk (c : CalMemory) : Bool :=
  match c.activity with
  | .writing t (.entry _ e) _ _ => decide (t ≠ 0) || setupOk e
  | .writing _ (.cut _) _ _ | .idle | .erasing _ _ => true

/-- The settings in use, and the SETUP record stored or being written, pass the tests of R155. -/
abbrev SettingsValid (s : State) : Prop :=
  settingsInRange s.setup = true ∧ (∀ e ∈ (storedTable s.cal 0).entries, setupOk e = true) ∧ setupWriteOk s.cal = true

/-! ### The temperature range (R45, R50, R53) -/

/-- The effective temperature and everything it can be chosen from lie in −400..+800. -/
abbrev TempsInRange (s : State) : Prop :=
  SettingsValid s ∧ tempInRange s.temp.value = true ∧ (∀ v ∈ s.temp.held, tempInRange v = true) ∧
  (∀ v ∈ s.temp.probes.p0.ring, tempInRange v = true) ∧ (∀ v ∈ s.temp.probes.p1.ring, tempInRange v = true)

/-! ### Detectors (R8, R9, R11, R14, R15) -/

/-- The area of a pulse under way lies in 1..2^31 − 1. -/
def areaInRange : ChanState → Bool
  | .inPulse p => inRange 1 areaMax p.area
  | .acquiring | .ready | .fault => true

/-- The ranges chapter 1 states for a detector: b16, the three counts and the area of a pulse under way. -/
abbrev DetectorInRange (d : Detector) : Prop :=
  (∀ b ∈ d.base, -524288 ≤ b ∧ b ≤ 524272) ∧ (d.state ≠ .acquiring → d.base.isSome = true ∨ d.state = .fault) ∧
  d.settle ≤ settleTarget ∧ (d.state = .acquiring → d.settle < settleTarget) ∧ d.missing < missingLimit ∧
  d.good ≤ recoveryTarget ∧ (d.state = .fault → d.good < recoveryTarget) ∧ areaInRange d.state = true

/-- The four detectors lie in the ranges of chapter 1, and the settings they use are valid. -/
abbrev DetectorsInRange (s : State) : Prop :=
  SettingsValid s ∧ DetectorInRange s.det.al ∧ DetectorInRange s.det.ar ∧ DetectorInRange s.det.bl ∧
  DetectorInRange s.det.br

/-! ### The four events of one sample set (R4, R101, R183) -/

/-- Station `y` is left by station `x` at an event with the tests that end it: SETTLING ends exactly when every detector is
READY or FAULT (R183), and a lane-clear run starts when the lane is clear in RUN and was not so before (R101). -/
def EndsWithTests (x y : State) : Prop :=
  (x.ctl.station = .settling → y.ctl.station = if y.det.all settled then .run else .settling) ∧
  (x.ctl.station ≠ .settling → y.ctl.station = x.ctl.station) ∧
  (y.ctl.station = .run → laneClear y = true → x.ctl.station ≠ .run ∨ laneClear x = false →
    y.veh.runCount = y.setup.clearCount)

/-- The detectors of a station on its way from `s` to `t`, once the first k channels have taken their samples. -/
def detectorsAt (s t : State) (k : Nat) : Quad Detector :=
  ⟨if 1 ≤ k then t.det.al else s.det.al, if 2 ≤ k then t.det.ar else s.det.ar, if 3 ≤ k then t.det.bl else s.det.bl,
   if 4 ≤ k then t.det.br else s.det.br⟩

/-- Station `t` is reached from `s` by one event per channel, in channel order, each ending with its tests (R4). -/
def ByChannels (s t : State) : Prop :=
  ∃ a b c, EndsWithTests s a ∧ EndsWithTests a b ∧ EndsWithTests b c ∧ EndsWithTests c t ∧
    a.det = detectorsAt s t 1 ∧ b.det = detectorsAt s t 2 ∧ c.det = detectorsAt s t 3

/-! ### What an event of the axle former or the vehicle assembler leaves as it is -/

/-- The two stations agree on everything but the axle former, the vehicle assembler, the link, the notices, the counters and
the station state. -/
abbrev SameMeasuring (s t : State) : Prop :=
  t.tick = s.tick ∧ t.outstanding = s.outstanding ∧ t.straps = s.straps ∧ t.setup = s.setup ∧ t.pins = s.pins ∧
  t.det = s.det ∧ t.pairer = s.pairer ∧ t.weigh = s.weigh ∧ t.temp = s.temp ∧ t.screenOn = s.screenOn ∧
  t.peers = s.peers ∧ t.cal = s.cal

/-! ### The end of an event that can clear the lane (R101) -/

/-- The commands of one event that end with the test of R101. STROBE and SAMPLE_SET end four events with it, one per channel,
see `EndsWithTests`. -/
def endsWithLaneTest : Instr → Bool
  | .selftestWaitExpiry | .weighingComplete | .loneDeclaration _ | .cederWaitExpiry _ | .ownerWaitExpiry _
  | .confirmationWaitExpiry _ | .gapTimerExpiry | .presenceLineChange _ | .debounceExpiry | .stuckExpiry
  | .halfAxleReceived | .mergeTakeReceived | .mergeCedeReceived | .mergeRefuseReceived | .rezero => true
  | _ => false

/-- A lane-clear run starts at an event from `s` to `t`: the lane is clear in RUN after it and was not so before (R101). -/
abbrev RunStarts (s t : State) : Prop :=
  t.ctl.station = .run ∧ laneClear t = true ∧ (s.ctl.station ≠ .run ∨ laneClear s = false)

/-! ### The reference of a half axle (R69) -/

/-- A ceder entry holds the reference. -/
def ReferenceHeld (l : List MergeEntry) (r : Byte) : Prop :=
  ∃ e ∈ l, (e.state = .offered ∨ e.state = .ceded) ∧ e.ref = some r

/-- Reference `r` is the counter's value when no ceder entry holds it, else the next value that none holds. -/
def NextReference (f : Former) (r : Byte) : Prop :=
  ∃ k : Nat, r = f.refCounter + BitVec.ofNat 8 k ∧ ¬ReferenceHeld f.merges r ∧
    ∀ j, j < k → ReferenceHeld f.merges (f.refCounter + BitVec.ofNat 8 j)

/-! ### A received peer half (R74, R128, R171) -/

/-- `h` is the half of HALF_AXLE `f` from peer `p` as it enters the peer-half table: its centre in own half-ticks, its speed in
mm/s, held for 3200 ticks. -/
def PeerHalfFrom (s : State) (p : Peer) (f : RxFrame) (h : PeerHalf) : Prop :=
  h.sender = f.source ∧ h.ref = byteAt f.payload 0 ∧
  h.centre = BitVec.ofNat 32 (numAt f.payload 2 4) - (p.offset + p.offset) ∧
  h.speed = (2 * (numAt f.payload 6 2 * 1000) + 36) / 72 ∧ h.data = halfWheel f.payload ∧ h.expiry = s.tick + 3200

/-! ### READY entries at a freed place (R99, R148) -/

/-- The READY entries in the closing order. -/
def readyInOrder (s : State) : List Vehicle :=
  s.veh.closingOrder.filterMap fun n => s.veh.entries.find? fun v => decide (v.number = n ∧ v.state = .ready)

/-- No two vehicle entries have one number, and the closing order names none twice. -/
abbrev NumbersDistinct (s : State) : Prop := (s.veh.entries.map Vehicle.number).Nodup ∧ s.veh.closingOrder.Nodup

/-- The READY entries have one closing order: none is READY, or the numbers are distinct. -/
abbrev OneClosingOrder (s : State) : Prop := (∀ v ∈ s.veh.entries, v.state ≠ .ready) ∨ NumbersDistinct s

/-- Station `t` is station `u` once its READY entries were offered in the closing order until the first refusal: while two
places are free an entry is QUEUED and its VEHICLE frame takes the place behind the others, so that 15 frames stand in the queue
at most when an offer ends it; the entries behind stay READY. -/
def ReadyOffered (u t : State) : Prop :=
  ∃ l, l = (readyInOrder u).take (15 - u.link.queue.length) ∧
    t = (u.withVeh { u.veh with
        entries := u.veh.entries.map fun v => if v ∈ l then { v with state := .queued } else v }).withLink
      { u.link with queue := u.link.queue ++ l.map vehicleFrame }

/-! ### Linked axles (R82) -/

/-- The vehicle entries with the axle linked to a merge-table entry changed in its place. -/
def withLinkedAxles (e : MergeEntry) (g : Axle → Axle) (l : List Vehicle) : List Vehicle :=
  l.map fun v =>
    if v.number = e.vehicle then { v with axles := v.axles.map fun a => if a.link = some e.slot then g a else a } else v

/-- An axle list with the axle linked to a merge-table entry changed in its place. -/
def changedAxles (e : MergeEntry) (g : Axle → Axle) (l : List Axle) : List Axle :=
  l.map fun a => if a.link = some e.slot then g a else a

/-- `l` is the axle list `rest` with axle `a` in its place by time: behind every axle that is not later, ahead of the next
(R84). -/
def PlacedByTime (a : Axle) (rest l : List Axle) : Prop :=
  ∃ l1 l2, rest = l1 ++ l2 ∧ l = l1 ++ a :: l2 ∧ (∀ x ∈ l1, isLater x.time a.time = false) ∧
    ∀ x ∈ l2.head?, isLater x.time a.time = true

/-! ### A vehicle in CLOSING and its last wait (R82, R97, R98) -/

/-- When the wait of merge-table entry `e` ends, no vehicle leaves CLOSING: its vehicle is not CLOSING, or another entry that
is not CEDED is linked to it. -/
abbrev NoneLeavesClosing (e : MergeEntry) (s : State) : Prop :=
  ∀ v ∈ s.veh.entries, v.number = e.vehicle → v.state = .closing →
    ∃ m ∈ s.former.merges, m.vehicle = e.vehicle ∧ m.slot ≠ e.slot ∧ m.state ≠ .ceded

/-- The wait of merge-table entry `e` is the last one of its vehicle `v`, which is CLOSING between the entries `before` and
`behind`. -/
abbrev LastWaitOf (e : MergeEntry) (v : Vehicle) (before behind : List Vehicle) (s : State) : Prop :=
  s.veh.entries = before ++ v :: behind ∧ v.number = e.vehicle ∧ v.state = .closing ∧
  (∀ x ∈ before ++ behind, x.number ≠ e.vehicle) ∧
  ∀ m ∈ s.former.merges, m.vehicle = e.vehicle → m.slot ≠ e.slot → m.state = .ceded

/-- Vehicle `v` of station `s` has left CLOSING with the axle list `axles`: it has entered the closing order, was classed and
screened at that event with these axles, and is READY, or QUEUED already (R97 to R99, R103). -/
def LeftClosing (v : Vehicle) (axles : List Axle) (s t : State) : Prop :=
  t.veh.closingOrder = s.veh.closingOrder ++ [v.number] ∧
  ∃ w ∈ t.veh.entries, (w.state = .ready ∨ w.state = .queued) ∧
    ∃ n, w = { v with
      axles := axles
      state := w.state
      outcome := some { classify s.cal.working (screenInput s) { v with axles := axles, state := .closed } with notice := n } }

/-! ### Eligibility for screening (R111) -/

/-- The conditions of R111 in their order, each with the reason of its failure. -/
def screeningConditions (w : Working) (i : ScreenInput) (v : Vehicle) : List (Prop × Reason) :=
  [(i.locked = true ∧ i.record.isSome = true, .notLocked),
   (i.calibrated = true ∧ v.uncalibrated = false, .notCalibrated),
   (i.screenOn = true, .screenOff),
   (1 ≤ (classify w i v).cls ∧ (classify w i v).cls ≤ 14, .cls),
   (∃ r, i.record = some r ∧ r.speedLow ≤ recordSpeed v.firstSpeed ∧ recordSpeed v.firstSpeed ≤ r.speedHigh, .speedBand),
   (worstSource v.axles ≠ none ∧ worstSource v.axles ≠ some .default, .tempSource),
   (∃ r x, i.record = some r ∧ firstTemp v.axles = some x ∧ r.tempLow ≤ x ∧ x ≤ r.tempHigh, .tempBand),
   (∀ a ∈ v.axles, a.kind ≠ .part, .part),
   (∀ a ∈ v.axles, a.unconfirmed = false, .unconfirmed),
   (∀ d ∈ allWheels v.axles, d.clipped = false, .clipped),
   (∀ d ∈ allWheels v.axles, d.disagree = false, .disagree),
   (∀ d ∈ allWheels v.axles, d.notWeighed = false, .notWeighed),
   (v.truncated = false ∧ v.continuation = false, .chain)]

/-! ### Frame layouts, as a receiver reads them (R172 to R175) -/

/-- The bytes of a wheel load in an axle record: two with a wheel that is not NOT_WEIGHED, else none (R173). -/
def LoadLayout (d : Option WheelData) (l : List Byte) : Prop :=
  (∀ w n, d = some w → w.notWeighed = false → w.load = some n → l.length = 2 ∧ numAt l 0 2 = n) ∧
  ((∀ w, d = some w → w.notWeighed = true) → l = [])

/-- One axle record: descriptor, reference where it is sent, and the loads (R173). -/
def AxleLayout (a : Axle) (exceeds : Prop) (l : List Byte) : Prop :=
  ∃ (d : Byte) (ref left right : List Byte), l = d :: (ref ++ left ++ right) ∧
    (a.kind = .full → fieldOf d 0 3 = 0 ∧ ref = []) ∧
    (a.kind = .merged → fieldOf d 0 3 = (if a.unconfirmed then 6 else 5) ∧ ref = []) ∧
    (a.kind = .part → a.ref = none → fieldOf d 0 3 = (if a.left.isSome then 1 else 2) ∧ ref = []) ∧
    (∀ r, a.kind = .part → a.ref = some r → fieldOf d 0 3 = (if a.left.isSome then 3 else 4) ∧ ref = [r]) ∧
    fieldOf d 3 2 = (a.left.map wheelState).getD 0 ∧ fieldOf d 5 2 = (a.right.map wheelState).getD 0 ∧
    (fieldOf d 7 1 = 1 ↔ exceeds) ∧ LoadLayout a.left left ∧ LoadLayout a.right right

/-- The VEHICLE payload of a vehicle with these outcome fields: the fixed part, one record for each axle in list order, and the
spacings in dm held at 255 (R172, R173). -/
def VehicleLayout (v : Vehicle) (c : Classed) (p : List Byte) : Prop :=
  numAt p 0 2 = v.number.toNat ∧ fieldOf (byteAt p 2) 0 4 = v.axles.length ∧ fieldOf (byteAt p 2) 4 3 = causeCode v.cause ∧
  fieldOf (byteAt p 2) 7 1 = v.truncated.toNat ∧ fieldOf (byteAt p 3) 0 4 = c.cls ∧
  fieldOf (byteAt p 3) 4 4 = c.entry.getD 15 ∧
  (c.screening = .clear → fieldOf (byteAt p 4) 0 3 = 0 ∧ fieldOf (byteAt p 4) 3 4 = 0) ∧
  (∀ r, c.screening = .notScreened r → fieldOf (byteAt p 4) 0 3 = 1 ∧ fieldOf (byteAt p 4) 3 4 = reasonCode r) ∧
  (c.screening = .overload → fieldOf (byteAt p 4) 3 4 = 0 ∧ (c.notice = .slot → fieldOf (byteAt p 4) 0 3 = 2) ∧
    (c.notice = .queued → fieldOf (byteAt p 4) 0 3 = 3) ∧ (c.notice = .dropped → fieldOf (byteAt p 4) 0 3 = 4)) ∧
  fieldOf (byteAt p 4) 7 1 = c.grossExceeds.toNat ∧ fieldOf (byteAt p 5) 0 3 = sourceCodeOpt c.worst ∧
  fieldOf (byteAt p 5) 3 5 = (if v.lead = 255 then 31 else v.lead / 12) ∧ numAt p 6 3 % 4096 = c.speed ∧
  (∀ t, c.firstTemp = some t → ((numAt p 6 3 / 4096 % 2048 : Nat) : Int) = t + 400) ∧
  (c.firstTemp = none → numAt p 6 3 / 4096 % 2048 = 2047) ∧ numAt p 6 3 / 8388608 = v.uncalibrated.toNat ∧
  ∃ records : List (List Byte), records.length = v.axles.length ∧
    p.drop 9 = records.flatten ++ (spacings v.axles).map (fun m => BitVec.ofNat 8 (min 255 ((2 * m + 100) / 200))) ∧
    ∀ k a l, v.axles[k]? = some a → records[k]? = some l → AxleLayout a (∃ n, (k + 1, n) ∈ c.exceeding) l

/-- The OVERLOAD payload of a classed vehicle (R174). -/
def OverloadLayout (lane : Nat) (v : Vehicle) (c : Classed) (p : List Byte) : Prop :=
  numAt p 0 1 = lane ∧ numAt p 1 2 = v.number.toNat ∧ (∀ a ∈ v.axles.head?, BitVec.ofNat 32 (numAt p 3 4) = a.time) ∧
  fieldOf (byteAt p 7) 0 4 = c.cls ∧ fieldOf (byteAt p 7) 4 4 = c.entry.getD 15 ∧ numAt p 8 2 = c.speed ∧
  numAt p 10 3 = c.gross ∧ fieldOf (byteAt p 13) 0 4 = c.exceeding.length ∧
  fieldOf (byteAt p 13) 7 1 = c.grossExceeds.toNat ∧ p.length = 14 + 4 * c.exceeding.length ∧
  ∀ k n load, c.exceeding[k]? = some (n, load) → numAt p (14 + 4 * k) 1 = n ∧ numAt p (15 + 4 * k) 3 = load

/-- The self-test findings in two bytes from byte `i` (R175). -/
def FindingsLayout (f : Findings) (p : List Byte) (i : Nat) : Prop :=
  (∀ k, k < 13 → (numAt p i 2 / 2 ^ k % 2 = 1 ↔ k ∈ f.failed)) ∧ (numAt p i 2 / 2 ^ 15 % 2 = 1 ↔ f.silent = true)

/-- The first two bytes of a frame of class 2: station number and lane (R175). -/
def HeadLayout (s : State) (p : List Byte) : Prop := byteAt p 0 = ownNumber s ∧ numAt p 1 1 = ownLane s

/-- The BEACON payload as it is formed, its timestamp not yet written (R119, R175). -/
def BeaconLayout (s : State) (p : List Byte) : Prop :=
  p.length = 18 ∧ HeadLayout s p ∧ fieldOf (byteAt p 2) 0 1 = s.straps.leftNeighbour.toNat ∧
  fieldOf (byteAt p 2) 1 1 = s.straps.rightNeighbour.toNat ∧ fieldOf (byteAt p 2) 2 1 = s.cal.calibrated.toNat ∧
  fieldOf (byteAt p 2) 3 1 = s.cal.lock.toNat ∧ fieldOf (byteAt p 2) 4 1 = s.screenOn.toNat ∧
  fieldOf (byteAt p 2) 5 2 = stateCode s.ctl.station ∧ fieldOf (byteAt p 3) 0 2 = s.setup.group ∧
  fieldOf (byteAt p 3) 2 2 = resetCode s.ctl.resetCause ∧ fieldOf (byteAt p 3) 4 3 = sourceCode s.temp.source ∧
  FindingsLayout s.ctl.findings p 10 ∧
  (∀ k, k < 4 → numAt p (12 + k) 1 = ((carriedNotices s)[k]?.map priority).getD 0) ∧
  numAt p 16 2 = s.counters.vehiclesSent

/-- The START payload (R175). -/
def StartLayout (s : State) (p : List Byte) : Prop :=
  p.length = 8 ∧ HeadLayout s p ∧ fieldOf (byteAt p 2) 0 1 = s.straps.leftNeighbour.toNat ∧
  fieldOf (byteAt p 2) 1 1 = s.straps.rightNeighbour.toNat ∧ fieldOf (byteAt p 2) 2 1 = s.straps.calEnable.toNat ∧
  numAt p 3 1 = resetCode s.ctl.resetCause ∧ numAt p 4 2 = s.ctl.supplyLowCount ∧ FindingsLayout s.ctl.findings p 6

/-- The TEMPERATURE payload (R59, R175); an absent filtered value reads as −32768. -/
def TemperatureLayout (s : State) (p : List Byte) : Prop :=
  p.length = 16 ∧ HeadLayout s p ∧ fieldOf (byteAt p 2) 0 3 = probeCode s.temp.probes.p0.state ∧
  fieldOf (byteAt p 2) 3 3 = probeCode s.temp.probes.p1.state ∧ fieldOf (byteAt p 2) 6 2 = weighingCode s.setup.weighing ∧
  intAt p 3 = (filtered s.temp.probes.p0).getD (-32768) ∧ intAt p 5 = (filtered s.temp.probes.p1).getD (-32768) ∧
  intAt p 7 = s.temp.value ∧ numAt p 9 1 = sourceCode s.temp.source ∧ intAt p 10 = s.temp.least ∧
  intAt p 12 = s.temp.greatest ∧ numAt p 14 2 = s.temp.goodReadings

/-- The LANE_CLEAR payload (R102, R175). -/
def LaneClearLayout (s : State) (p : List Byte) : Prop :=
  p.length = 8 ∧ HeadLayout s p ∧ numAt p 2 1 = s.setup.clearCount - s.veh.runCount + 1 ∧
  numAt p 3 2 = (s.veh.lastOpened.map BitVec.toNat).getD 0 ∧
  fieldOf (byteAt p 5) 0 4 =
    (s.veh.entries.filter fun v => decide (v.state = .ready) || decide (v.state = .queued)).length ∧
  fieldOf (byteAt p 5) 7 1 = s.veh.lastOpened.isSome.toNat ∧ numAt p 6 2 = s.counters.vehiclesSent

/-! ### Commands and replies on the link (R137, R177, R178) -/

/-- The oldest received frame is `f`, of that kind, due for delivery, with `rest` behind it, and the station works. -/
abbrev AtFront (kind : Byte) (f : RxFrame) (rest : List RxFrame) (s : State) : Prop :=
  working s = true ∧ s.link.due = true ∧ s.link.rxQueue = f :: rest ∧ f.kind = kind

/-- A place of the transmit queue is free for a reply. -/
abbrev RoomForReply (s : State) : Prop := s.link.queue.length < txCap

/-- The link once the oldest received frame is taken. -/
def takenLink (rest : List RxFrame) (s : State) : Link := { s.link with rxQueue := rest, due := false }

/-- The station once the oldest received frame is taken. -/
def taken (rest : List RxFrame) (s : State) : State := s.withLink (takenLink rest s)

/-- A transmit queue with the REPLY to a command, none to a broadcast one. -/
def answered (f : RxFrame) (code : ReplyCode) (table : Byte) (q : List TxFrame) : List TxFrame :=
  if f.dest = broadcast then q else q ++ [replyFrame f.source f.kind code table]

end Sys2Proof.Machine
end

