-- ==== Sys2Proof/Certificates/Slice0/Obligations.lean ====
section
/-! DEFINITION. The statements for the provers, in the order of OBLIGATIONS.json. Each docstring names the rules it rests on. -/

open Sys2Proof Sys2Proof.Machine

/-! ### The machine as a whole -/

/-- The command at the front of the queue runs on the state with the rest of the queue; on an empty queue the station idles.
Both clauses are the model's own choice (assumption 1): the manual has events, not a queue. -/
def Obligations.StepRunsFrontCommand : Prop :=
  (∀ (c : Instr) (rest : List Instr) (s : State), s.pending = c :: rest → step s = exec c (s.withPending rest)) ∧
  ∀ s : State, s.pending = [] → step s = .next s

/-- No command stops the station, and none touches the queue of the commands that wait behind it. Both rest on the model's
own choices: the queue is assumption 1, and that a command whose event cannot occur completes with nothing changed is
assumption 3. -/
def Obligations.EveryCommandCompletes : Prop :=
  ∀ (c : Instr) (s : State), ∃ t, exec c s = .next t ∧ t.pending = s.pending

/-- Every step keeps the capacities, at most one OPEN entry, the 16-bit counters, the rules of the frames held for sending,
the distinct peers, a locked memory that does not write, and the quiet of a station before SELFTEST. -/
def Obligations.SoundKeptByEveryStep : Prop := ∀ s t : State, Sound s → step s = .next t → Sound t

/-- The state after reset satisfies the invariants of the other statements. -/
def Obligations.InvariantsHoldAtReset : Prop :=
  Sound State.reset ∧ TempsInRange State.reset ∧ DetectorsInRange State.reset

/-- R50: the effective temperature always lies in −400..+800, whatever its source. -/
def Obligations.TemperatureStaysInRange : Prop :=
  ∀ s t : State, TempsInRange s → step s = .next t → TempsInRange t

/-- Chapter 1's ranges of a detector hold after every step: b16, the counts, the pulse area. -/
def Obligations.DetectorsStayInRange : Prop :=
  ∀ s t : State, DetectorsInRange s → step s = .next t → DetectorsInRange t

/-- The table of station states (chapter 11): each state is left only as its row says, SELFTEST only at the end of its wait, by
its expiry or by the first set that passes its check, or by a reset, RUN only by a reset; RUN is entered only at an event
after which every detector is READY or FAULT, which in a set of samples is the event of one of its channels (R4; their order is
assumption 35). -/
def Obligations.StationStatesFollowTheirTable : Prop :=
  ∀ (c : Instr) (s t : State), exec c s = .next t → t.ctl.station ≠ s.ctl.station →
    (isReset c = true ∧ ((∃ k, t.ctl.station = .inReset k) ∨ (c = .linkRestart ∧ t.ctl.station = .start))) ∨
    ((∃ k, s.ctl.station = .inReset k) ∧ (∃ x, c = .resetCauseEnd x) ∧ t.ctl.station = .start) ∨
    (s.ctl.station = .start ∧ (∃ x, c = .startDone x) ∧ t.ctl.station = .selftest) ∨
    (s.ctl.station = .selftest ∧
      ((c = .selftestWaitExpiry ∧ ∃ e, s.ctl.waitExpiry = some e ∧ reached s.tick e = true) ∨
        (∃ v0 v1 v2 v3 tags check, c = .sampleSet v0 v1 v2 v3 tags check ∧ s.outstanding.isSome = true ∧
          setPasses v0 v1 v2 v3 tags check = true)) ∧
      (t.ctl.station = .settling ∨ (t.ctl.station = .run ∧ t.det.all settled = true))) ∨
    (s.ctl.station = .settling ∧ t.ctl.station = .run ∧
      (t.det.all settled = true ∨
        ((c = .strobe ∨ ∃ v0 v1 v2 v3 tags check, c = .sampleSet v0 v1 v2 v3 tags check) ∧ s.outstanding.isSome = true ∧
          ∃ k, 1 ≤ k ∧ k ≤ 4 ∧ (detectorsAt s t k).all settled = true)))

/-- R186: no command but a reset lowers a counter, and every reset sets every counter to 0. -/
def Obligations.CountersRiseUntilReset : Prop :=
  (∀ (c : Instr) (s t : State), CountersFit s → isReset c = false → exec c s = .next t →
    List.Forall₂ (fun m n => m ≤ n) s.counters.values t.counters.values) ∧
  ∀ (c : Instr) (s t : State), isReset c = true → exec c s = .next t → t = s ∨ ∀ n ∈ t.counters.values, n = 0

/-- R165, R166: the lock is cleared only at the completion of an erase, in flight or taken up by START; while it is set and
no write is in flight, the stored tables do not change. -/
def Obligations.LockFreezesTablesUntilErase : Prop :=
  ∀ (c : Instr) (s t : State), exec c s = .next t → s.cal.lock = true →
    (t.cal.lock = false →
      (c = .eraseComplete ∧ ∃ source begun, s.cal.activity = .erasing source begun) ∨
      (∃ straps, c = .startDone straps ∧ s.cal.eraseMarker = true)) ∧
    (t.cal.lock = true → notWriting s.cal = true → t.cal.tables = s.cal.tables ∧ notWriting t.cal = true)

/-- R180 to R182: straps and settings change at the end of START alone; outside a reset the supply-low count never changes,
the reset cause changes only where the end of the last cause enters START, and the findings only where the end of the
self-test wait records them. -/
def Obligations.StartValuesStayFixed : Prop :=
  ∀ (c : Instr) (s t : State), exec c s = .next t →
    ((∀ x, c ≠ .startDone x) → t.straps = s.straps ∧ t.setup = s.setup) ∧
    (isReset c = false →
      t.ctl.supplyLowCount = s.ctl.supplyLowCount ∧
      (t.ctl.resetCause = s.ctl.resetCause ∨
        ∃ kind cause, s.ctl.station = .inReset kind ∧ c = .resetCauseEnd cause ∧ t.ctl.station = .start ∧
          t.ctl.resetCause = kind) ∧
      (t.ctl.findings = s.ctl.findings ∨
        (s.ctl.station = .selftest ∧ (t.ctl.station = .settling ∨ t.ctl.station = .run) ∧
          ((c = .selftestWaitExpiry ∧ t.ctl.findings = ⟨true, s.cal.failed⟩) ∨
            (∃ v0 v1 v2 v3 tags check, c = .sampleSet v0 v1 v2 v3 tags check ∧
              t.ctl.findings = ⟨false, s.cal.failed⟩)))))

/-- R1: the tick counter is set to 0 by a reset and advances by one at a tick, and nothing else moves it. -/
def Obligations.TickCounterMovesByTicksAlone : Prop :=
  ∀ (c : Instr) (s t : State), exec c s = .next t → t.tick ≠ s.tick →
    (c = .strobe ∧ t.tick = s.tick + 1) ∨ ((isReset c = true ∨ ∃ x, c = .resetCauseEnd x) ∧ t.tick = 0)

/-- R181: in START the station strobes nothing, receives nothing and sends nothing: no command but a reset, the end of START,
a tick, the presence line and the end of a reset cause does anything. -/
def Obligations.StartReceivesAndSendsNothing : Prop :=
  ∀ (c : Instr) (s : State), s.ctl.station = .start → Quiet s → actsInStart c = false → exec c s = .next s

/-- R180, R184: every kind of reset ends the work of every block at once, empties the set of notices, keeps the non-volatile
memory, and treats the supply-low count by its kind; TEMP_DEFAULT is pending again once the station is in START. The station
stays in reset until the cause ends. A LINK_RESTART has no cause that lasts and enters START. The model's own choices in it:
the level that holds the reset (assumption 8), the values straight after a reset that START sets, such as the effective
temperature, minimum and maximum of 200 and the register kept (assumption 10), the self-test findings clear and empty until
the end of the self-test wait gives them (assumption 10), the bytes last sent (assumption 21), and the queue of waiting
commands kept (assumption 1). -/
def Obligations.ResetsClearEveryBlock : Prop :=
  (∀ s : State, ∃ t, exec .powerOn s = .next t ∧ t.ctl.station = .inReset .powerOn ∧ t.ctl.supplyLowCount = 0 ∧
    t.pins = { s.pins with supplyBelow := true } ∧ t.tick = 0 ∧ ResetFrom s t ∧ ∀ n, isPending t n = false) ∧
  (∀ s : State, ∃ t, exec .supplyLow s = .next t ∧ t.ctl.station = .inReset .supplyLow ∧
    t.ctl.supplyLowCount = min 65535 (s.ctl.supplyLowCount + 1) ∧
    t.pins = { s.pins with supplyBelow := true } ∧ t.tick = 0 ∧ ResetFrom s t ∧ ∀ n, isPending t n = false) ∧
  (∀ s : State, ∃ t, exec .resetLine s = .next t ∧ t.ctl.station = .inReset .resetLine ∧
    t.ctl.supplyLowCount = s.ctl.supplyLowCount ∧
    t.pins = { s.pins with resetAsserted := true } ∧ t.tick = 0 ∧ ResetFrom s t ∧ ∀ n, isPending t n = false) ∧
  (∀ s : State, s.ctl.restartPending = true → (∀ f ∈ heldFrames s, f.restartReply = false) → notWriting s.cal = true →
    ∃ t, exec .linkRestart s = .next t ∧ t.ctl.station = .start ∧ t.ctl.resetCause = .linkRestart ∧
      t.ctl.supplyLowCount = s.ctl.supplyLowCount ∧ t.pins = s.pins ∧ t.tick = 0 ∧ ResetFrom s t ∧
      ∀ n, isPending t n = decide (n = .tempDefault))

/-- R180: when the last cause of a reset ends, the station enters START, records the kind of the last reset, and the tick
counter begins at 0; while another cause lasts, it stays in reset. -/
def Obligations.LastCauseEndingEntersStart : Prop :=
  (∀ (s : State) (kind : ResetKind), s.ctl.station = .inReset kind → s.pins.supplyBelow = false →
    exec (.resetCauseEnd .line) s =
      .next (((s.withPins { s.pins with resetAsserted := false }).withTick 0).withCtl
        { s.ctl with station := .start, resetCause := kind })) ∧
  (∀ (s : State) (kind : ResetKind), s.ctl.station = .inReset kind → s.pins.resetAsserted = false →
    exec (.resetCauseEnd .supply) s =
      .next (((s.withPins { s.pins with supplyBelow := false }).withTick 0).withCtl
        { s.ctl with station := .start, resetCause := kind })) ∧
  (∀ (s : State) (kind : ResetKind), s.ctl.station = .inReset kind → s.pins.supplyBelow = true →
    exec (.resetCauseEnd .line) s = .next (s.withPins { s.pins with resetAsserted := false })) ∧
  ∀ (s : State) (kind : ResetKind), s.ctl.station = .inReset kind → s.pins.resetAsserted = true →
    exec (.resetCauseEnd .supply) s = .next (s.withPins { s.pins with supplyBelow := false })

/-- R181 with R42, R54, R56, R95, R144, R154, R155, R158, R159, R166: what START has set when it is done. -/
def Obligations.StartSetsStrapsTablesAndSettings : Prop :=
  ∀ (straps : Straps) (s : State), s.ctl.station = .start →
    ∃ t, exec (.startDone straps) s = .next t ∧
      t.straps = straps ∧ t.ctl.station = .selftest ∧ t.ctl.waitExpiry = some (s.tick + 800) ∧
      t.ctl.resetCause = s.ctl.resetCause ∧ t.ctl.supplyLowCount = s.ctl.supplyLowCount ∧
      (s.cal.eraseMarker = false → t.cal.tables = s.cal.tables ∧ t.cal.lock = s.cal.lock) ∧
      (s.cal.eraseMarker = true → t.cal.tables = List.replicate 13 .blank ∧ t.cal.lock = false ∧ t.cal.failed = []) ∧
      t.cal.eraseMarker = false ∧ t.cal.activity = .idle ∧
      (∀ k, k ∈ t.cal.failed ↔ k < 13 ∧ failsCheck k (storedTable t.cal k) = true) ∧
      t.cal.calibrated = calibratedNow t.cal ∧
      t.cal.working.gain = (tableEntries t.cal 1).map gainOf ∧ t.cal.working.band = (tableEntries t.cal 2).map bandOf ∧
      t.cal.working.temps = (tableEntries t.cal 3).map tempPointOf ∧
      t.cal.working.screen = (tableEntries t.cal 4).head?.map screenOf ∧
      (∀ n, 2 ≤ n → n ≤ 9 →
        t.cal.working.pages[n - 2]? = some ((tableEntries t.cal (n + 3)).map (classOf (n - 1)))) ∧
      (tablePresent t.cal 0 = false → t.setup = .builtIn) ∧
      (∀ e rest, tableEntries t.cal 0 = e :: rest → t.setup = setupOf e) ∧
      t.temp.value = t.setup.defaultTemp ∧ t.temp.source = .default ∧ t.temp.least = t.setup.defaultTemp ∧
      t.temp.greatest = t.setup.defaultTemp ∧ t.temp.held = none ∧
      (∀ i, (t.temp.probes.get i).state = if t.setup.assigned.get i then .waiting else .absent) ∧
      (t.setup.presenceUsed = false → t.veh.presence = none) ∧
      (t.setup.presenceUsed = true → s.pins.line = .vacant → t.veh.presence = some .vacant) ∧
      (t.setup.presenceUsed = true → s.pins.line = .occupied → t.veh.presence = some (.occupied (s.tick + 480000))) ∧
      t.link.lfsr.toNat = straps.station.toNat * 4099 + 1 ∧ t.link.rxPath = .waitQuiet ∧
      t.tick = s.tick ∧ t.det = s.det ∧ t.peers = s.peers ∧ t.counters = s.counters ∧ t.pins = s.pins ∧
      t.link.queue = s.link.queue ∧ t.outstanding = s.outstanding

/-! ### The sample port and the pulse detectors -/

/-- R1, R2, R4: a tick advance from SELFTEST on requests the set of the new tick; a set still outstanding gives one missing
sample on each channel, one event per channel with the tests of R101 and R183 after each; in START the counter advances
alone. The order of the four events is assumption 35. -/
def Obligations.StrobeRequestsTheNextSet : Prop :=
  (∀ s : State, working s = true → ∃ t, exec .strobe s = .next t ∧ t.tick = s.tick + 1 ∧ t.outstanding = some (s.tick + 1) ∧
    t.link.due = (decide ((s.tick + 1).toNat % 2 = 0) && !s.link.rxQueue.isEmpty) ∧ t.link.rxQueue = s.link.rxQueue ∧
    (s.outstanding = none → t.det = s.det ∧ t.pairer = s.pairer ∧ t.weigh = s.weigh ∧ t.former = s.former ∧
      t.veh.entries = s.veh.entries ∧ t.counters = s.counters) ∧
    (∀ u, s.outstanding = some u →
      t.det = ⟨(takeSample s.setup .al u .missing s.det.al).1, (takeSample s.setup .ar u .missing s.det.ar).1,
               (takeSample s.setup .bl u .missing s.det.bl).1, (takeSample s.setup .br u .missing s.det.br).1⟩ ∧
      ByChannels s t) ∧
    t.straps = s.straps ∧ t.setup = s.setup ∧ t.pins = s.pins ∧ t.temp = s.temp ∧ t.screenOn = s.screenOn ∧
    t.peers = s.peers ∧ t.cal = s.cal) ∧
  (∀ s : State, s.ctl.station = .start → exec .strobe s = .next (s.withTick (s.tick + 1)))

/-- R2 to R5: a complete set ends the request; when it passes, each channel takes the value and tag of the input that feeds
it, stamped with the tick of the request; when it fails, each channel takes a missing sample; each is one event per channel with
the tests of R101 and R183 after it; without a request it is discarded. The order of the four events is assumption 35, and that
the first good set reaches the detectors before the self-test wait ends is assumption 30. -/
def Obligations.SampleSetReachesTheDetectors : Prop :=
  (∀ (v0 v1 v2 v3 : BitVec 16) (tags check : Byte) (s : State) (u : Tick), s.outstanding = some u →
    ∃ t, exec (.sampleSet v0 v1 v2 v3 tags check) s = .next t ∧ t.outstanding = none ∧
      (setPasses v0 v1 v2 v3 tags check = true →
        t.det = ⟨(takeSample s.setup .al u (inputSample v0 v1 v2 v3 tags (routing s.setup).al) s.det.al).1,
                 (takeSample s.setup .ar u (inputSample v0 v1 v2 v3 tags (routing s.setup).ar) s.det.ar).1,
                 (takeSample s.setup .bl u (inputSample v0 v1 v2 v3 tags (routing s.setup).bl) s.det.bl).1,
                 (takeSample s.setup .br u (inputSample v0 v1 v2 v3 tags (routing s.setup).br) s.det.br).1⟩) ∧
      (setPasses v0 v1 v2 v3 tags check = false →
        t.det = ⟨(takeSample s.setup .al u .missing s.det.al).1, (takeSample s.setup .ar u .missing s.det.ar).1,
                 (takeSample s.setup .bl u .missing s.det.bl).1, (takeSample s.setup .br u .missing s.det.br).1⟩) ∧
      (setPasses v0 v1 v2 v3 tags check = true → s.ctl.station = .selftest →
        (t.ctl.station = .settling ∨ t.ctl.station = .run) ∧
        t.ctl.findings = ⟨false, s.cal.failed⟩ ∧ t.ctl.beaconExpiry = some (s.tick + 8000)) ∧
      (setPasses v0 v1 v2 v3 tags check = false ∨ s.ctl.station ≠ .selftest → ByChannels s t) ∧
      t.tick = s.tick ∧ t.straps = s.straps ∧ t.setup = s.setup ∧ t.pins = s.pins ∧ t.screenOn = s.screenOn ∧
      t.peers = s.peers ∧ t.cal = s.cal ∧ t.link.rxQueue = s.link.rxQueue) ∧
  ∀ (v0 v1 v2 v3 : BitVec 16) (tags check : Byte) (s : State), s.outstanding = none →
    exec (.sampleSet v0 v1 v2 v3 tags check) s = .next s

/-- R3, R168: a set passes exactly when its eight value bytes, its tag byte and its set check sum to 0 modulo 256 and no tag
bit beyond bit 3 is set. -/
def Obligations.SetCheckIsTheByteSum : Prop :=
  ∀ (v0 v1 v2 v3 : BitVec 16) (tags check : Byte),
    setPasses v0 v1 v2 v3 tags check = true ↔
      tags.toNat < 16 ∧
      (v0.toNat / 256 + v0.toNat % 256 + v1.toNat / 256 + v1.toNat % 256 + v2.toNat / 256 + v2.toNat % 256 +
        v3.toNat / 256 + v3.toNat % 256 + tags.toNat + check.toNat) % 256 = 0

/-- R8 with R6 and R9: each sample that a detector takes in ACQUIRING. -/
def Obligations.AcquiringTakesSamples : Prop :=
  ∀ (u : Setup) (ch : Chan) (t : Tick) (d : Detector), d.state = .acquiring →
    (∀ x, d.base = none → takeSample u ch t (.good x true) d = ({ d with missing := 0 }, none)) ∧
    (∀ x, d.base = none →
      takeSample u ch t (.good x false) d = ({ d with base := some (16 * x), settle := 1, missing := 0 }, none)) ∧
    (∀ b x clip, d.base = some b → (clip = true ∨ (u.tOn : Int) ≤ x - roundAway b 16) →
      takeSample u ch t (.good x clip) d = ({ d with settle := 0, missing := 0 }, none)) ∧
    (∀ b x, d.base = some b → x - roundAway b 16 < (u.tOn : Int) → d.settle < 1999 →
      takeSample u ch t (.good x false) d =
        ({ d with base := some (b + (16 * x - b).tdiv 64), settle := d.settle + 1, missing := 0 }, none)) ∧
    (∀ b x, d.base = some b → x - roundAway b 16 < (u.tOn : Int) → d.settle = 1999 →
      takeSample u ch t (.good x false) d =
        ({ d with state := .ready, base := some (b + (16 * x - b).tdiv 64), settle := 2000, missing := 0 }, none)) ∧
    (d.missing < 7 →
      takeSample u ch t .missing d =
        ({ d with missing := d.missing + 1, settle := if d.base.isSome then 0 else d.settle }, none))

/-- R9, R10, R13 in READY and R14 to R18 in IN_PULSE: tracking, a missing sample below the eighth, the onset, the area with its
dips and limits, a saturated area that stays as it is, LONG, and the release with its record. -/
def Obligations.PulseFromOnsetToRelease : Prop :=
  (∀ (u : Setup) (ch : Chan) (t : Tick) (d : Detector) (b : Int), d.state = .ready → d.base = some b →
    (∀ x, x - roundAway b 16 < (u.tOn : Int) →
      takeSample u ch t (.good x false) d = ({ d with base := some (b + (16 * x - b).tdiv 64), missing := 0 }, none) ∧
      takeSample u ch t (.good x true) d = ({ d with missing := 0 }, none)) ∧
    (d.missing < 7 → takeSample u ch t .missing d = ({ d with missing := d.missing + 1 }, none)) ∧
    (∀ x clip, (u.tOn : Int) ≤ x - roundAway b 16 →
      takeSample u ch t (.good x clip) d =
        ({ d with
            missing := 0
            state := .inPulse ⟨t, t, (x - roundAway b 16).toNat, 0, 0, clip, false, false, false⟩ }, none))) ∧
  ∀ (u : Setup) (ch : Chan) (t : Tick) (d : Detector) (b : Int) (p : Pulse), d.state = .inPulse p → d.base = some b →
    (∀ x clip, (u.tOff : Int) ≤ x - roundAway b 16 → p.saturated = false →
      takeSample u ch t (.good x clip) d =
        ({ d with
            missing := 0
            state := .inPulse { p with
              lastAbove := t
              area := (max 1 (min 2147483647 ((p.area : Int) + p.tentative + (x - roundAway b 16)))).toNat
              tentative := 0
              below := 0
              clipped := p.clipped || clip ||
                decide (2147483647 < (p.area : Int) + p.tentative + (x - roundAway b 16))
              long := p.long || decide (u.dmax < (t - p.onset + 1).toNat)
              saturated := decide (2147483647 < (p.area : Int) + p.tentative + (x - roundAway b 16)) } }, none)) ∧
    (∀ x clip, (u.tOff : Int) ≤ x - roundAway b 16 → p.saturated = true →
      takeSample u ch t (.good x clip) d =
        ({ d with
            missing := 0
            state := .inPulse { p with
              lastAbove := t
              tentative := 0
              below := 0
              clipped := p.clipped || clip
              long := p.long || decide (u.dmax < (t - p.onset + 1).toNat) } }, none)) ∧
    (∀ x clip, x - roundAway b 16 < (u.tOff : Int) → p.below + 1 < u.q →
      takeSample u ch t (.good x clip) d =
        ({ d with
            missing := 0
            state := .inPulse { p with
              tentative := p.tentative + (x - roundAway b 16)
              below := p.below + 1
              clipped := p.clipped || clip } }, none)) ∧
    (∀ x clip, x - roundAway b 16 < (u.tOff : Int) → u.q ≤ p.below + 1 →
      (takeSample u ch t (.good x clip) d).2 =
        some ⟨ch, p.onset, p.lastAbove, p.area, p.clipped || clip, p.gapped, p.long⟩ ∧
      (takeSample u ch t (.good x clip) d).1 =
        if d.rezero then { d with state := .acquiring, base := none, settle := 0, missing := 0, rezero := false }
        else { d with state := .ready, missing := 0 })

/-- R8, R10, R11: the eighth missing sample in a row sends a detector to FAULT and ends a pulse under way; an earlier one counts
in every other state; 64 good samples in a row end FAULT. -/
def Obligations.FaultComesAtEightAndEndsAtSixtyFour : Prop :=
  (∀ (u : Setup) (ch : Chan) (t : Tick) (d : Detector), d.state ≠ .fault → d.missing = 7 →
    (takeSample u ch t .missing d).1.state = .fault ∧ (takeSample u ch t .missing d).1.good = 0 ∧
    (takeSample u ch t .missing d).1.missing = 0 ∧ (takeSample u ch t .missing d).1.base = d.base ∧
    ((takeSample u ch t .missing d).2 =
      match d.state with
      | .inPulse p => some ⟨ch, p.onset, p.lastAbove, p.area, p.clipped, true, p.long⟩
      | _ => none) ∧
    (∀ p, d.state = .inPulse p → (takeSample u ch t .missing d).1.rezero = false)) ∧
  (∀ (u : Setup) (ch : Chan) (t : Tick) (d : Detector) (p : Pulse), d.state = .inPulse p → d.missing < 7 →
    takeSample u ch t .missing d =
      ({ d with missing := d.missing + 1, state := .inPulse { p with gapped := true } }, none)) ∧
  (∀ (u : Setup) (ch : Chan) (t : Tick) (d : Detector), d.missing < 7 →
    (d.state = .ready → takeSample u ch t .missing d = ({ d with missing := d.missing + 1 }, none)) ∧
    (d.state = .acquiring → takeSample u ch t .missing d =
      ({ d with missing := d.missing + 1, settle := if d.base.isSome then 0 else d.settle }, none))) ∧
  ∀ (u : Setup) (ch : Chan) (t : Tick) (d : Detector), d.state = .fault →
    (takeSample u ch t .missing d = ({ d with good := 0 }, none)) ∧
    (∀ x clip, d.good < 63 → takeSample u ch t (.good x clip) d = ({ d with good := d.good + 1 }, none)) ∧
    (∀ x clip, d.good = 63 → (takeSample u ch t (.good x clip) d).1.state = .acquiring ∧
      (takeSample u ch t (.good x clip) d).1.base = none ∧ (takeSample u ch t (.good x clip) d).1.settle = 0 ∧
      (takeSample u ch t (.good x clip) d).1.missing = 0 ∧ (takeSample u ch t (.good x clip) d).2 = none)

/-- R19, R177: a REZERO restarts each channel it names, at once or at the release of its pulse, leaves the others as they
are, and is answered DONE. -/
def Obligations.RezeroRestartsNamedChannels : Prop :=
  (∀ (s : State) (f : RxFrame) (rest : List RxFrame) (b : Byte), AtFront 0x38 f rest s → RoomForReply s →
    f.payload = [b] → 1 ≤ b.toNat → b.toNat ≤ 15 →
    ∃ t, exec .rezero s = .next t ∧
      t.det.al = (if b.getLsbD 0 then rezeroDetector s.det.al else s.det.al) ∧
      t.det.ar = (if b.getLsbD 1 then rezeroDetector s.det.ar else s.det.ar) ∧
      t.det.bl = (if b.getLsbD 2 then rezeroDetector s.det.bl else s.det.bl) ∧
      t.det.br = (if b.getLsbD 3 then rezeroDetector s.det.br else s.det.br) ∧
      t.link.queue = answered f .done 255 s.link.queue ∧ t.link.rxQueue = rest ∧
      t.tick = s.tick ∧ t.outstanding = s.outstanding ∧ t.pairer = s.pairer ∧ t.weigh = s.weigh ∧ t.temp = s.temp ∧
      t.former = s.former ∧ t.veh.entries = s.veh.entries ∧ t.cal = s.cal ∧ t.counters = s.counters) ∧
  ∀ d : Detector,
    (d.state = .acquiring ∨ d.state = .ready →
      rezeroDetector d = { d with state := .acquiring, base := none, settle := 0 }) ∧
    (∀ p, d.state = .inPulse p → rezeroDetector d = { d with rezero := true }) ∧
    (d.state = .fault → rezeroDetector d = d)

/-! ### Pairing and weighing -/

/-- R23: a difference of centres of 0 or less is too fast; for a greater one the speed is the line spacing times 16000 over it,
rounded half up, and pairs in 1389..69,444 mm/s, with a record speed in 50..2500. The differences that pair run from a shortest
to a longest, with the figures of the table under the rule. The line spacing is what START loads from SETUP, 4000 without it,
and stays fixed while the station works. -/
def Obligations.PairingSpanIsExact : Prop :=
  (∀ (d : Nat) (ha hb : HalfTick), 1000 ≤ d → d ≤ 6000 →
    (pairTest d ha hb = .tooFast ↔ sdiff hb ha < (deltaMin d : Int)) ∧
    (pairTest d ha hb = .tooOld ↔ (deltaMax d : Int) < sdiff hb ha) ∧
    ∀ v, pairTest d ha hb = .pairs v ↔
      (deltaMin d : Int) ≤ sdiff hb ha ∧ sdiff hb ha ≤ (deltaMax d : Int) ∧
        v = (2 * (d * 16000) + (sdiff hb ha).toNat) / (2 * (sdiff hb ha).toNat)) ∧
  (∀ (d : Nat) (ha hb : HalfTick),
    (sdiff hb ha ≤ 0 → pairTest d ha hb = .tooFast) ∧
    ∀ v, 0 < sdiff hb ha → v = (2 * (d * 16000) + (sdiff hb ha).toNat) / (2 * (sdiff hb ha).toNat) →
      (v < 1389 → pairTest d ha hb = .tooOld) ∧ (69444 < v → pairTest d ha hb = .tooFast) ∧
      (1389 ≤ v → v ≤ 69444 → pairTest d ha hb = .pairs v ∧ recordSpeed v = (2 * (v * 36) + 1000) / 2000 ∧
        50 ≤ recordSpeed v ∧ recordSpeed v ≤ 2500)) ∧
  (∀ (x : Straps) (s t : State), s.ctl.station = .start → exec (.startDone x) s = .next t →
    (tablePresent t.cal 0 = false → t.setup.spacing = 4000) ∧
    ∀ e rest, tableEntries t.cal 0 = e :: rest → t.setup.spacing = numAt e 0 2) ∧
  (∀ (c : Instr) (s t : State), working s = true → isReset c = false → (∀ x, c ≠ .startDone x) → exec c s = .next t →
    t.setup.spacing = s.setup.spacing) ∧
  deltaMin 1000 = 231 ∧ deltaMax 1000 = 11523 ∧ deltaMin 4000 = 922 ∧ deltaMax 4000 = 46092 ∧ deltaMin 6000 = 1383 ∧
  deltaMax 6000 = 69139

/-- R21, R22, R24, R27: what a pulse record does in the speed pairer. A line-A record joins its list, which holds at most 8. A
line-B record drops the records that are too old, and then pairs, or is an orphan at a too-fast record or an empty list. -/
def Obligations.PairerListsFollowTheWalk : Prop :=
  (∀ (s : State) (r : PulseRec), onLineA r.chan = true → (s.pairer.get (pathOf r.chan)).length < 8 →
    handRecord (some r) s = s.withPairer (s.pairer.set (pathOf r.chan) (s.pairer.get (pathOf r.chan) ++ [r]))) ∧
  (∀ (s : State) (r a : PulseRec) (l : List PulseRec), onLineA r.chan = true → s.pairer.get (pathOf r.chan) = a :: l →
    l.length = 7 →
    handRecord (some r) s =
      (bump .orphanA s).withPairer (s.pairer.set (pathOf r.chan) (l ++ [r]))) ∧
  (∀ (s : State) (r : PulseRec) (old : List PulseRec), onLineA r.chan = false → s.pairer.get (pathOf r.chan) = old →
    (∀ x ∈ old, pairTest s.setup.spacing x.centre r.centre = .tooOld) →
    handRecord (some r) s =
      bump .orphanB (bumpTimes .orphanA old.length (s.withPairer (s.pairer.set (pathOf r.chan) [])))) ∧
  (∀ (s : State) (r a : PulseRec) (old l : List PulseRec), onLineA r.chan = false →
    s.pairer.get (pathOf r.chan) = old ++ a :: l →
    (∀ x ∈ old, pairTest s.setup.spacing x.centre r.centre = .tooOld) →
    pairTest s.setup.spacing a.centre r.centre = .tooFast →
    handRecord (some r) s =
      bump .orphanB (bumpTimes .orphanA old.length (s.withPairer (s.pairer.set (pathOf r.chan) (a :: l))))) ∧
  ∀ (s : State) (r a : PulseRec) (old l : List PulseRec) (v : Nat), onLineA r.chan = false →
    s.pairer.get (pathOf r.chan) = old ++ a :: l →
    (∀ x ∈ old, pairTest s.setup.spacing x.centre r.centre = .tooOld) →
    pairTest s.setup.spacing a.centre r.centre = .pairs v →
    s.weigh.queue.length < 8 → s.weigh.inFlight.isSome = true →
    handRecord (some r) s =
      (bumpTimes .orphanA old.length (s.withPairer (s.pairer.set (pathOf r.chan) l))).withWeigh
        { s.weigh with queue := s.weigh.queue ++ [⟨pathOf r.chan, v, a, r⟩] }

/-- R27, R28: a wheel hit waits behind a weighing in flight, begins its weighing at once in an idle unit, and bypasses weighing
at a full queue, counted and with no load. -/
def Obligations.WheelHitsQueueOrBypass : Prop :=
  (∀ (s : State) (h : WheelHit), s.weigh.queue.length < 8 → s.weigh.inFlight.isSome = true →
    handHit h s = s.withWeigh { s.weigh with queue := s.weigh.queue ++ [h] }) ∧
  (∀ (s : State) (h : WheelHit), s.weigh.queue = [] → s.weigh.inFlight = none →
    ∃ w, handHit h s = s.withWeigh { queue := [], inFlight := some w } ∧ w.hit = h ∧ w.begun = s.tick ∧
      w.temp = s.temp.value ∧ w.source = s.temp.source ∧ w.gain = s.cal.working.gain ∧ w.band = s.cal.working.band ∧
      w.temps = s.cal.working.temps ∧ w.calibrated = s.cal.calibrated ∧
      (∀ r, s.cal.working.screen = some r → w.limit = r.limit) ∧ (s.cal.working.screen = none → w.limit = 25)) ∧
  ∀ (s : State) (h : WheelHit), s.weigh.queue.length = 8 →
    (handHit h s).weigh = s.weigh ∧
    handHit h s =
      receiveWheel { hit := h, data := { load := none, clipped := false, disagree := false, notWeighed := true,
                                         uncalibrated := false, temp := none, source := none } }
        (raise .queueLoss (bump .weighLoss s))

/-- R30, R60: a weighing that has lasted a tick completes; its wheel is discarded before RUN and held or paired in RUN, and the
next weighing begins at the same event. -/
def Obligations.WeighingCompletesAndTheNextBegins : Prop :=
  ∀ (s : State) (w : Weighing), s.weigh.inFlight = some w → isLater s.tick w.begun = true →
    ∃ t, exec .weighingComplete s = .next t ∧
      (s.weigh.queue = [] → t.weigh = ⟨[], none⟩) ∧
      (∀ h rest, s.weigh.queue = h :: rest → t.weigh.queue = rest ∧ ∃ n, t.weigh.inFlight = some n ∧ n.hit = h ∧
        n.begun = s.tick ∧ n.temp = s.temp.value ∧ n.source = s.temp.source ∧ n.gain = s.cal.working.gain ∧
        n.band = s.cal.working.band ∧ n.temps = s.cal.working.temps ∧ n.calibrated = s.cal.calibrated ∧
        (∀ r, s.cal.working.screen = some r → n.limit = r.limit) ∧ (s.cal.working.screen = none → n.limit = 25)) ∧
      (s.ctl.station ≠ .run → t.former = s.former ∧ t.veh.entries = s.veh.entries ∧ t.counters = s.counters) ∧
      (s.ctl.station = .run → s.former.holding.get (otherPath w.hit.path) = [] →
        (s.former.holding.get w.hit.path).length < 4 →
        t.former = { s.former with holding := s.former.holding.set w.hit.path (s.former.holding.get w.hit.path ++
          [{ wheel := ⟨w.hit, weighingOutcome w⟩, window := max 16 (s.setup.skew * 16000 / w.hit.speed),
             windowEnd := w.hit.centre + BitVec.ofNat 32 (max 16 (s.setup.skew * 16000 / w.hit.speed)) }]) } ∧
        t.veh.entries = s.veh.entries ∧ t.counters = s.counters) ∧
      t.tick = s.tick ∧ t.outstanding = s.outstanding ∧ t.det = s.det ∧ t.pairer = s.pairer ∧ t.temp = s.temp ∧
      t.peers = s.peers ∧ t.cal = s.cal ∧ t.setup = s.setup

/-- R34: the factor of a temperature by the four cases of the rule; every factor used lies between the smallest and the largest
factor of the table, and at a point of the table it is that point's factor; the third step of an estimate applies it to the
temperature and the table that the weighing took. -/
def Obligations.TemperatureFactorStaysInTheTable : Prop :=
  (∀ l : List (Int × Nat), l ≠ [] → l.Pairwise (fun a b => a.1 < b.1) →
    (∀ t, (∃ a ∈ l, (a.2 : Int) ≤ tempFactor l t) ∧ ∃ b ∈ l, tempFactor l t ≤ (b.2 : Int)) ∧
    (∀ p ∈ l, tempFactor l p.1 = (p.2 : Int)) ∧
    (∀ p t, l = [p] → tempFactor l t = (p.2 : Int)) ∧
    (∀ p ∈ l.head?, ∀ t, t ≤ p.1 → tempFactor l t = (p.2 : Int)) ∧
    (∀ p ∈ l.getLast?, ∀ t, p.1 ≤ t → tempFactor l t = (p.2 : Int)) ∧
    ∀ before behind a b t q, l = before ++ a :: b :: behind → a.1 ≤ t → t < b.1 →
      q = (2 * ((((b.2 : Int) - a.2).natAbs) * (t - a.1).toNat) + (b.1 - a.1).toNat) / (2 * (b.1 - a.1).toNat) →
      q ≤ ((b.2 : Int) - a.2).natAbs ∧ tempFactor l t = (a.2 : Int) + ((b.2 : Int) - a.2).sign * (q : Int)) ∧
  ∀ (w : Weighing) (r : PulseRec) (k w1 w2 w3 factor : Nat), w.gain[chanIndex r.chan]? = some k →
    w1 = (2 * (r.area * w.hit.speed * k) + 4294967296) / 8589934592 → w1 ≤ 65535 →
    w2 = (2 * (w1 * bandFactor w.band (recordSpeed w.hit.speed)) + 1024) / 2048 → w2 ≤ 65535 →
    tempFactor w.temps w.temp = (factor : Int) → w3 = (2 * (w2 * factor) + 1024) / 2048 →
    (65535 < w3 → estimate w r = ⟨65535, true⟩) ∧ (w3 ≤ 65535 → (estimate w r).value = w3)

/-- R32, R33, R35 to R40: the three steps of an estimate with their saturation, the band of a speed, and what a completed
weighing says of its wheel by the kinds of its two pulses. -/
def Obligations.WheelLoadAndFlags : Prop :=
  (∀ (w : Weighing) (r : PulseRec), (estimate w r).value ≤ 65535) ∧
  (∀ (w : Weighing) (r : PulseRec) (k w1 w2 w3 : Nat), w.gain[chanIndex r.chan]? = some k →
    w1 = (2 * (r.area * w.hit.speed * k) + 4294967296) / 8589934592 →
    w2 = (2 * (w1 * bandFactor w.band (recordSpeed w.hit.speed)) + 1024) / 2048 →
    w3 = (2 * (w2 * (tempFactor w.temps w.temp).toNat) + 1024) / 2048 →
    (65535 < w1 ∨ 65535 < w2 ∨ 65535 < w3 → estimate w r = ⟨65535, true⟩) ∧
    (w1 ≤ 65535 → w2 ≤ 65535 → w3 ≤ 65535 → estimate w r = ⟨w3, r.clipped⟩)) ∧
  (∀ (before behind : List (Nat × Nat)) (e : Nat × Nat) (n : Nat), (∀ x ∈ before, x.1 < n) →
    (n ≤ e.1 → bandFactor (before ++ e :: behind) n = e.2) ∧
    (e.1 < n → behind = [] → bandFactor (before ++ e :: behind) n = e.2)) ∧
  (∀ w : Weighing,
    (∀ n, (weighingOutcome w).load = some n → n ≤ 65535 ∧ w.calibrated = true) ∧
    ((weighingOutcome w).notWeighed = true ↔ (weighingOutcome w).load = none) ∧
    (weighingOutcome w).uncalibrated = !w.calibrated ∧
    (weighingOutcome w).temp = some w.temp ∧ (weighingOutcome w).source = some w.source ∧
    ((weighingOutcome w).disagree = true → (weighingOutcome w).clipped = false ∧ (weighingOutcome w).notWeighed = false) ∧
    ((weighingOutcome w).clipped = true → (weighingOutcome w).notWeighed = false) ∧
    (w.calibrated = false → (weighingOutcome w).load = none ∧ (weighingOutcome w).clipped = false ∧
      (weighingOutcome w).disagree = false)) ∧
  (∀ r : PulseRec, weighable r = true ↔ r.gapped = false ∧ r.long = false) ∧
  ∀ (w : Weighing), w.calibrated = true →
    (weighable w.hit.aPulse = false → weighable w.hit.bPulse = false → (weighingOutcome w).load = none ∧
      (weighingOutcome w).clipped = false ∧ (weighingOutcome w).disagree = false) ∧
    (weighable w.hit.aPulse = true → weighable w.hit.bPulse = false →
      (weighingOutcome w).load = some (estimate w w.hit.aPulse).value ∧
      (weighingOutcome w).clipped = (estimate w w.hit.aPulse).clipped ∧ (weighingOutcome w).disagree = false) ∧
    (weighable w.hit.aPulse = false → weighable w.hit.bPulse = true →
      (weighingOutcome w).load = some (estimate w w.hit.bPulse).value ∧
      (weighingOutcome w).clipped = (estimate w w.hit.bPulse).clipped ∧ (weighingOutcome w).disagree = false) ∧
    (weighable w.hit.aPulse = true → weighable w.hit.bPulse = true →
      (estimate w w.hit.aPulse).clipped = true → (estimate w w.hit.bPulse).clipped = false →
      (weighingOutcome w).load = some (estimate w w.hit.bPulse).value ∧ (weighingOutcome w).clipped = false ∧
      (weighingOutcome w).disagree = false) ∧
    (weighable w.hit.aPulse = true → weighable w.hit.bPulse = true →
      (estimate w w.hit.aPulse).clipped = false → (estimate w w.hit.bPulse).clipped = true →
      (weighingOutcome w).load = some (estimate w w.hit.aPulse).value ∧ (weighingOutcome w).clipped = false ∧
      (weighingOutcome w).disagree = false) ∧
    (weighable w.hit.aPulse = true → weighable w.hit.bPulse = true →
      (estimate w w.hit.aPulse).clipped = true → (estimate w w.hit.bPulse).clipped = true →
      (weighingOutcome w).load = some (max (estimate w w.hit.aPulse).value (estimate w w.hit.bPulse).value) ∧
      (weighingOutcome w).clipped = true ∧ (weighingOutcome w).disagree = false) ∧
    (weighable w.hit.aPulse = true → weighable w.hit.bPulse = true →
      (estimate w w.hit.aPulse).clipped = false → (estimate w w.hit.bPulse).clipped = false →
      (weighingOutcome w).load = some (((estimate w w.hit.aPulse).value + (estimate w w.hit.bPulse).value + 1) / 2) ∧
      (weighingOutcome w).clipped = false ∧
      ((weighingOutcome w).disagree = true ↔
        w.limit * (((estimate w w.hit.aPulse).value + (estimate w w.hit.bPulse).value + 1) / 2) <
          (((estimate w w.hit.aPulse).value : Int) - (estimate w w.hit.bPulse).value).natAbs * 100))

/-! ### The temperature unit -/

/-- R41, R43 to R49, R52: a reading that passes its check changes its own probe record, as good or bad, and the effective
temperature is re-chosen after that change; one that fails its check or is of an ABSENT probe changes nothing. -/
def Obligations.ProbeReadingsMoveTheirProbe : Prop :=
  (∀ (head : Byte) (value : BitVec 16) (check : Byte) (s : State),
    readingPasses head value check = false ∨ (s.temp.probes.get (readingProbe head)).state = .absent →
    exec (.probeReading head value check) s = .next s) ∧
  (∀ (head : Byte) (value : BitVec 16) (check : Byte) (s : State), working s = true →
    readingPasses head value check = true → (s.temp.probes.get (readingProbe head)).state ≠ .absent →
    ∃ t, exec (.probeReading head value check) s = .next t ∧ t = s.withTemp t.temp ∧
      t.temp.probes.get (otherProbe (readingProbe head)) = s.temp.probes.get (otherProbe (readingProbe head)) ∧
      (readingBad (s.temp.probes.get (readingProbe head)) (readingOk head) value.toInt = true →
        t.temp.probes.get (readingProbe head) = badReading (s.temp.probes.get (readingProbe head)) ∧
        t.temp.goodReadings = s.temp.goodReadings ∧
        t = rechoose (s.withTemp { s.temp with
          probes := s.temp.probes.set (readingProbe head) (badReading (s.temp.probes.get (readingProbe head))) })) ∧
      (readingBad (s.temp.probes.get (readingProbe head)) (readingOk head) value.toInt = false →
        t.temp.probes.get (readingProbe head) = goodReading s.tick value.toInt (s.temp.probes.get (readingProbe head)) ∧
        t.temp.goodReadings = satInc s.temp.goodReadings ∧
        t = rechoose (s.withTemp { s.temp with
          probes := s.temp.probes.set (readingProbe head)
            (goodReading s.tick value.toInt (s.temp.probes.get (readingProbe head)))
          goodReadings := satInc s.temp.goodReadings }))) ∧
  (∀ (p : Probe) (ok : Bool) (v : Int), readingBad p ok v = true ↔
    ok = false ∨ v < -400 ∨ 800 < v ∨ (p.state = .valid ∧ ∃ f, filtered p = some f ∧ 50 < (v - f).natAbs)) ∧
  ∀ (t : Tick) (v : Int) (p : Probe),
    (goodReading t v p).lastGood = some t ∧ (goodReading t v p).bad = 0 ∧
    (goodReading t v p).ring = (if p.ring.length < 8 then p.ring ++ [v] else p.ring.drop 1 ++ [v]) ∧
    ((goodReading t v p).state = .valid ↔
      p.state = .valid ∨ p.state = .stale ∨ (p.state = .waiting ∧ 3 ≤ p.ring.length) ∨
      (p.state = .fault ∧ 7 ≤ p.good)) ∧
    (p.state = .valid ∨ p.state = .stale → 2 ≤ p.bad →
      badReading p = { p with state := .fault, ring := [], bad := 0, good := 0 }) ∧
    (p.state = .valid ∨ p.state = .stale → p.bad < 2 → badReading p = { p with bad := p.bad + 1, good := 0 }) ∧
    (p.state = .waiting → (badReading p).state = .waiting ∧ (badReading p).ring = p.ring) ∧
    (p.state = .fault → (badReading p).state = .fault ∧ (badReading p).ring = [])

/-- R47, R52, R53: the three timers of the temperature unit, each with the re-choice that follows it. -/
def Obligations.TemperatureTimersExpire : Prop :=
  (∀ (i : ProbeIx) (s : State) (g : Tick), (s.temp.probes.get i).state = .valid →
    (s.temp.probes.get i).lastGood = some g → reached s.tick (g + 80000) = true →
    ∃ t, exec (.stalenessExpiry i) s = .next t ∧ t = s.withTemp t.temp ∧
      t = rechoose (s.withTemp { s.temp with
        probes := s.temp.probes.set i { s.temp.probes.get i with state := .stale } }) ∧
      t.temp.probes.get i = { s.temp.probes.get i with state := .stale } ∧
      t.temp.probes.get (otherProbe i) = s.temp.probes.get (otherProbe i)) ∧
  (∀ (s : State) (e : Tick), s.temp.freshExpiry = some e → reached s.tick e = true →
    exec .freshnessExpiry s = .next (rechoose s)) ∧
  (∀ (s : State) (e : Tick), s.temp.heldExpiry = some e → reached s.tick e = true →
    exec .heldTimerExpiry s = .next (rechoose (s.withTemp { s.temp with held := none, heldExpiry := none }))) ∧
  (∀ (s : State) (e : Tick), s.temp.heldExpiry = some e → reached s.tick e = true → liveChoice s = none →
    ∃ t, exec .heldTimerExpiry s = .next t ∧ t = s.withTemp t.temp ∧ t.temp.held = none ∧ t.temp.heldExpiry = none ∧
      t.temp.source = .default ∧ t.temp.value = s.setup.defaultTemp ∧ t.temp.probes = s.temp.probes)

/-- R50, R52, R53, R56: the source of a re-choice is the first that applies, a live one becomes the held value and stops the
held timer, the loss of the live sources starts it, and a PEER value stays until 24,001 ticks after the earliest last beacon
among the fresh peers, the one of greatest age (assumption 32). -/
def Obligations.ReChoiceTakesTheBestSource : Prop :=
  ∀ s : State,
    (∀ i f, s.setup.weighing = some i → (s.temp.probes.get i).state = .valid → filtered (s.temp.probes.get i) = some f →
      (rechoose s).temp.source = .probe ∧ (rechoose s).temp.value = f ∧ (rechoose s).temp.held = some f ∧
      (rechoose s).temp.heldExpiry = none ∧ (rechoose s).temp.freshExpiry = none) ∧
    (∀ i f, s.setup.weighing = some i → (s.temp.probes.get i).state ≠ .valid →
      (s.temp.probes.get (otherProbe i)).state = .valid → filtered (s.temp.probes.get (otherProbe i)) = some f →
      (rechoose s).temp.source = .altProbe ∧ (rechoose s).temp.value = f ∧ (rechoose s).temp.held = some f ∧
      (rechoose s).temp.heldExpiry = none ∧ (rechoose s).temp.freshExpiry = none) ∧
    (s.temp.probes.p0.state ≠ .valid → s.temp.probes.p1.state ≠ .valid →
      ((∃ p ∈ s.peers, isFresh s p = true) →
        (rechoose s).temp.source = .peer ∧
        (rechoose s).temp.value = meanInt ((s.peers.filter (isFresh s)).map Peer.temp) ∧
        (rechoose s).temp.held = some (rechoose s).temp.value ∧ (rechoose s).temp.heldExpiry = none ∧
        ∃ p ∈ s.peers, isFresh s p = true ∧
          (∀ x ∈ s.peers, isFresh s x = true → sdiff s.tick x.last ≤ sdiff s.tick p.last) ∧
          (rechoose s).temp.freshExpiry = some (p.last + 24001)) ∧
      ((∀ p ∈ s.peers, isFresh s p = false) → ∀ h, s.temp.held = some h →
        (rechoose s).temp.source = .held ∧ (rechoose s).temp.value = h ∧ (rechoose s).temp.held = some h ∧
        (rechoose s).temp.freshExpiry = none ∧
        (isLive s.temp.source = true → (rechoose s).temp.heldExpiry = some (s.tick + 4800000)) ∧
        (isLive s.temp.source = false → (rechoose s).temp.heldExpiry = s.temp.heldExpiry)) ∧
      ((∀ p ∈ s.peers, isFresh s p = false) → s.temp.held = none →
        (rechoose s).temp.source = .default ∧ (rechoose s).temp.value = s.setup.defaultTemp ∧
        (rechoose s).temp.held = none ∧ (rechoose s).temp.freshExpiry = none)) ∧
    (rechoose s).temp.least = min s.temp.least (rechoose s).temp.value ∧
    (rechoose s).temp.greatest = max s.temp.greatest (rechoose s).temp.value ∧
    (rechoose s).temp.probes = s.temp.probes ∧ rechoose s = s.withTemp (rechoose s).temp

/-! ### The axle former -/

/-- R60 to R63, R66, R67: a wheel in RUN pairs with the first held wheel of the other path that passes both tests, into a FULL
axle, and is held otherwise; a full list first gives up its oldest wheel as lone; before RUN a wheel is discarded. -/
def Obligations.WheelsPairOrAreHeld : Prop :=
  (∀ (w : WeighedHit) (s : State), s.ctl.station ≠ .run → receiveWheel w s = s) ∧
  (∀ (w : WeighedHit) (h : HeldWheel), wheelsPair w h = true ↔
    (sdiff w.hit.centre h.wheel.hit.centre).natAbs ≤ h.window ∧
    ((w.hit.speed : Int) - h.wheel.hit.speed).natAbs * 10 ≤ min w.hit.speed h.wheel.hit.speed) ∧
  (∀ (w : WeighedHit) (s : State) (h : HeldWheel) (older newer : List HeldWheel), s.ctl.station = .run →
    s.former.holding.get (otherPath w.hit.path) = older ++ h :: newer → (∀ x ∈ older, wheelsPair w x = false) →
    wheelsPair w h = true →
    ∃ a, receiveWheel w s = (handAxle a (withHolding s (otherPath w.hit.path) (older ++ newer))).1 ∧
      a.kind = .full ∧ a.ref = none ∧ a.link = none ∧ a.unconfirmed = false ∧
      a.speed = (w.hit.speed + h.wheel.hit.speed + 1) / 2 ∧
      (w.hit.path = .left → a.left = some w.data ∧ a.right = some h.wheel.data ∧
        a.time = meanTime w.hit.centre h.wheel.hit.centre) ∧
      (w.hit.path = .right → a.left = some h.wheel.data ∧ a.right = some w.data ∧
        a.time = meanTime h.wheel.hit.centre w.hit.centre)) ∧
  (∀ (w : WeighedHit) (s : State), s.ctl.station = .run →
    (∀ x ∈ s.former.holding.get (otherPath w.hit.path), wheelsPair w x = false) →
    (s.former.holding.get w.hit.path).length < 4 →
    receiveWheel w s = withHolding s w.hit.path (s.former.holding.get w.hit.path ++ [heldWheel s.setup w])) ∧
  ∀ (w : WeighedHit) (s : State) (h : HeldWheel) (rest : List HeldWheel), s.ctl.station = .run →
    (∀ x ∈ s.former.holding.get (otherPath w.hit.path), wheelsPair w x = false) →
    s.former.holding.get w.hit.path = h :: rest → rest.length = 3 →
    receiveWheel w s =
      withHolding (takeLone h.wheel (withHolding s w.hit.path rest)) w.hit.path (rest ++ [heldWheel s.setup w]) ∧
    (receiveWheel w s).counters.axlesFormed = satInc s.counters.axlesFormed

/-- R64 to R66, R70, R75: the oldest wheel for which the three conditions of R64 hold leaves its list and is handed to the
vehicle assembler as one axle; on an edge without neighbour strap it is PARTIAL, with its wheel on the side of its path, and
takes no part in a merge. -/
def Obligations.LoneWheelsAreDeclaredOldestFirst : Prop :=
  ∀ (s : State) (p : Path) (h : HeldWheel) (older newer : List HeldWheel),
    s.former.holding.get p = older ++ h :: newer → (∀ x ∈ older, canDeclare s p x = false) →
    isLater (inHalfTicks s.tick) h.windowEnd = true →
    (∀ x ∈ s.weigh.queue ++ (s.weigh.inFlight.map Weighing.hit).toList, x.path = otherPath p →
      within x.centre h.wheel.hit.centre h.window = false) →
    (∀ a ∈ s.pairer.get (otherPath p),
      isLater (inHalfTicks s.tick) (spanEnd s.setup.spacing a) = true ∨
      isLater (spanBegin s.setup.spacing a) (after h.wheel.hit.centre h.window) = true ∨
      isLater (h.wheel.hit.centre - BitVec.ofNat 32 h.window) (spanEnd s.setup.spacing a) = true) →
    ∃ t, exec (.loneDeclaration p) s = .next t ∧
      t.former.holding = s.former.holding.set p (older ++ newer) ∧
      t.counters.axlesFormed = satInc s.counters.axlesFormed ∧
      ((h.wheel.hit.path = .left ∧ s.straps.leftNeighbour = false) ∨
       (h.wheel.hit.path = .right ∧ s.straps.rightNeighbour = false) →
        t.former.merges = s.former.merges ∧ t.former.refCounter = s.former.refCounter ∧
        ∃ a, a.kind = .part ∧ a.ref = none ∧ a.link = none ∧ a.time = h.wheel.hit.centre ∧ a.speed = h.wheel.hit.speed ∧
          a.unconfirmed = false ∧ (h.wheel.hit.path = .left → a.left = some h.wheel.data ∧ a.right = none) ∧
          (h.wheel.hit.path = .right → a.left = none ∧ a.right = some h.wheel.data) ∧
          t.veh.entries = (handAxle a (withHolding s p (older ++ newer))).1.veh.entries) ∧
      t.link.rxQueue = s.link.rxQueue ∧ SameMeasuring s t

/-- R65 to R67, R69 to R71, R75, R76: a lone wheel on a shared edge. The ceder takes the counter's reference or the next one not
held, offers a HALF_AXLE and waits 3200 ticks; the owner waits 1200, or is matched at once with the oldest fitting half it has
already; an axle the assembler loses leaves no entry; without a usable neighbour, with a full merge table, or when the transmit
queue refuses the HALF_AXLE, the half is PARTIAL at once, with the reference in the last case only. -/
def Obligations.HalfAxlesStartTheirMerge : Prop :=
  (∀ (w : WeighedHit) (s : State) (p : Peer), w.hit.path = .left → s.straps.leftNeighbour = true →
    cederNeighbour s = some p → s.former.merges.length < 8 → s.link.queue.length < 16 → openEntry s = none →
    s.veh.entries.length < 8 →
    ∃ (e : MergeEntry) (r : Byte) (v : Vehicle) (a : Axle),
      (takeLone w s).former.merges = s.former.merges ++ [e] ∧ NextReference s.former r ∧
      (takeLone w s).former.refCounter = r + 1 ∧ e.state = .offered ∧ e.partner = p.station ∧ e.ref = some r ∧
      e.deadline = s.tick + 3200 ∧ e.vehicle = s.veh.counter ∧
      (takeLone w s).veh.entries = s.veh.entries ++ [v] ∧ v.axles = [a] ∧ v.number = s.veh.counter ∧ v.state = .opened ∧
      a.kind = .pending ∧ a.ref = some r ∧ a.link = some e.slot ∧ a.left = some w.data ∧ a.right = none ∧
      (takeLone w s).link.queue = s.link.queue ++ [mkFrame .halfAxle p.station (halfPayload r (ownWheel w))] ∧
      (takeLone w s).counters = s.counters.bump .axlesFormed) ∧
  (∀ (w : WeighedHit) (s : State), w.hit.path = .left → s.straps.leftNeighbour = true → cederNeighbour s = none →
    takeLone w s = (handAxle (partAxle (ownWheel w) none) s).1) ∧
  (∀ (w : WeighedHit) (s : State) (p : Peer), w.hit.path = .left → s.straps.leftNeighbour = true →
    cederNeighbour s = some p → s.former.merges.length = 8 →
    takeLone w s = raise .queueLoss (bump .mergeFull (handAxle (partAxle (ownWheel w) none) s).1)) ∧
  (∀ (w : WeighedHit) (s : State) (p : Peer), w.hit.path = .right → s.straps.rightNeighbour = true →
    ownerNeighbour s = some p → s.former.merges.length < 8 → openEntry s = none → s.veh.entries.length < 8 →
    (∀ h ∈ s.former.halves, h.sender = p.station → within h.centre w.hit.centre 160 = true →
      speedsAgree h.speed w.hit.speed = false) →
    ∃ (e : MergeEntry) (v : Vehicle) (a : Axle),
      (takeLone w s).former.merges = s.former.merges ++ [e] ∧ e.state = .waiting ∧ e.partner = p.station ∧ e.ref = none ∧
      e.deadline = s.tick + 1200 ∧ e.vehicle = s.veh.counter ∧
      (takeLone w s).veh.entries = s.veh.entries ++ [v] ∧ v.axles = [a] ∧ v.number = s.veh.counter ∧ v.state = .opened ∧
      a.kind = .pending ∧ a.ref = none ∧ a.link = some e.slot ∧ a.left = none ∧ a.right = some w.data ∧
      (takeLone w s).link = s.link ∧ (takeLone w s).counters = s.counters.bump .axlesFormed) ∧
  (∀ (w : WeighedHit) (s : State), w.hit.path = .right → s.straps.rightNeighbour = true → ownerNeighbour s = none →
    takeLone w s = (handAxle (partAxle (ownWheel w) none) s).1) ∧
  (∀ (w : WeighedHit) (s : State) (p : Peer), w.hit.path = .right → s.straps.rightNeighbour = true →
    ownerNeighbour s = some p → s.former.merges.length = 8 →
    takeLone w s = raise .queueLoss (bump .mergeFull (handAxle (partAxle (ownWheel w) none) s).1)) ∧
  (∀ (w : WeighedHit) (s : State) (p : Peer), w.hit.path = .left → s.straps.leftNeighbour = true →
    cederNeighbour s = some p → s.former.merges.length < 8 → s.link.queue.length = 16 →
    (∀ x ∈ s.link.queue, frameClass x.kind = 2 → x.sending = true) →
    ∃ r, NextReference s.former r ∧
      takeLone w s = raise .queueLoss (bump .mergeFull
        (handAxle (partAxle (ownWheel w) (some r)) (s.withFormer { s.former with refCounter := r + 1 })).1)) ∧
  (∀ (w : WeighedHit) (s : State) (p : Peer), w.hit.path = .left → s.straps.leftNeighbour = true →
    cederNeighbour s = some p → s.former.merges.length < 8 → s.link.queue.length < 16 →
    ∃ (r : Byte) (slot : Nat) (u : State), NextReference s.former r ∧
      u = (s.withFormer { s.former with refCounter := r + 1 }).withLink
        { s.link with queue := s.link.queue ++ [mkFrame .halfAxle p.station (halfPayload r (ownWheel w))] } ∧
      ((handAxle (pendingAxle (ownWheel w) (some r) slot) u).2 = none →
        takeLone w s = (handAxle (pendingAxle (ownWheel w) (some r) slot) u).1) ∧
      (openEntry s = none → s.veh.entries.length = 8 →
        (takeLone w s).former = u.former ∧ (takeLone w s).veh = { s.veh with runCount := 0 } ∧
        (takeLone w s).counters = (s.counters.bump .axlesFormed).bump .vehicleLoss ∧
        (takeLone w s).raised = { s.raised with queueLoss := true } ∧
        (takeLone w s).link.queue.map TxFrame.kind = u.link.queue.map TxFrame.kind ∧
        (takeLone w s).link.queue.map TxFrame.dest = u.link.queue.map TxFrame.dest ∧
        (takeLone w s).link.queue.map TxFrame.payload = u.link.queue.map TxFrame.payload)) ∧
  (∀ (w : WeighedHit) (s : State) (p : Peer), w.hit.path = .right → s.straps.rightNeighbour = true →
    ownerNeighbour s = some p → s.former.merges.length < 8 →
    (∃ slot : Nat, (handAxle (pendingAxle (ownWheel w) none slot) s).2 = none →
      takeLone w s = (handAxle (pendingAxle (ownWheel w) none slot) s).1) ∧
    (openEntry s = none → s.veh.entries.length = 8 →
      takeLone w s = raise .queueLoss
        ((s.withVeh { s.veh with runCount := 0 }).withCounters ((s.counters.bump .axlesFormed).bump .vehicleLoss)))) ∧
  (∀ (w : WeighedHit) (s : State) (p : Peer) (before behind : List PeerHalf) (h : PeerHalf), w.hit.path = .right →
    s.straps.rightNeighbour = true → ownerNeighbour s = some p → s.former.merges.length < 8 → openEntry s = none →
    s.veh.entries.length < 8 → (∀ v ∈ s.veh.entries, v.number ≠ s.veh.counter) → s.former.halves = before ++ h :: behind →
    h.sender = p.station → within h.centre w.hit.centre 160 = true → speedsAgree h.speed w.hit.speed = true →
    (∀ x ∈ before, x.sender = p.station → within x.centre w.hit.centre 160 = true →
      speedsAgree x.speed w.hit.speed = false) →
    (s.link.queue.length < 16 →
      ∃ (e : MergeEntry) (v : Vehicle) (a : Axle),
        (takeLone w s).former = { s.former with
          merges := s.former.merges ++ [e]
          halves := s.former.halves.filter fun x => !(decide (x.sender = h.sender) && decide (x.ref = h.ref)) } ∧
        (∀ m ∈ s.former.merges, m.slot ≠ e.slot) ∧ e.state = .taken ∧ e.partner = p.station ∧ e.ref = some h.ref ∧
        e.deadline = s.tick + 2400 ∧ e.vehicle = s.veh.counter ∧ e.own = ownWheel w ∧
        (takeLone w s).veh.entries = s.veh.entries ++ [v] ∧ v.axles = [a] ∧ v.number = s.veh.counter ∧ v.state = .opened ∧
        v.uncalibrated = (w.data.uncalibrated || h.data.uncalibrated) ∧ a.kind = .merged ∧ a.ref = some h.ref ∧
        a.link = some e.slot ∧ a.unconfirmed = false ∧ a.left = some w.data ∧ a.right = some h.data ∧
        a.time = meanTime w.hit.centre h.centre ∧ a.speed = (w.hit.speed + h.speed + 1) / 2 ∧
        (takeLone w s).link.queue = s.link.queue ++ [mkFrame .mergeTake p.station [h.ref]] ∧
        (takeLone w s).counters = (s.counters.bump .axlesFormed).bump .mergesTaken) ∧
    (s.link.queue.length = 16 → (∀ x ∈ s.link.queue, frameClass x.kind = 2 → x.sending = true) →
      (∀ x ∈ s.link.queue, x.kind = .vehicle → x.sending = true) →
      ∃ v : Vehicle, (takeLone w s).former = s.former ∧ (takeLone w s).veh.entries = s.veh.entries ++ [v] ∧
        v.axles = [partAxle (ownWheel w) none] ∧ v.number = s.veh.counter ∧ v.state = .opened ∧
        (takeLone w s).counters = ((s.counters.bump .axlesFormed).bump .txDrop).bump .mergeFull ∧
        (takeLone w s).raised = { s.raised with queueLoss := true } ∧
        (takeLone w s).link.queue.map TxFrame.payload = s.link.queue.map TxFrame.payload)) ∧
  ∀ (w : WeighedHit) (ref : Option Byte),
    (w.hit.path = .left → partAxle (ownWheel w) ref =
      { time := w.hit.centre, speed := w.hit.speed, left := some w.data, right := none, kind := .part, unconfirmed := false,
        ref := ref, link := none }) ∧
    (w.hit.path = .right → partAxle (ownWheel w) ref =
      { time := w.hit.centre, speed := w.hit.speed, left := none, right := some w.data, kind := .part, unconfirmed := false,
        ref := ref, link := none })

/-- R73, R78, R81, R97: the three waits of the merge table at their deadlines. A vehicle in CLOSING whose last wait ends so
leaves that state at the same event. -/
def Obligations.MergeWaitsEndAtTheirDeadline : Prop :=
  ∀ (s : State) (e : MergeEntry), e ∈ s.former.merges → (s.former.merges.map MergeEntry.slot).Nodup →
    reached s.tick e.deadline = true →
    (e.state = .ceded → ∃ t, exec (.cederWaitExpiry e.slot) s = .next t ∧
      t.former = { s.former with merges := s.former.merges.filter fun m => decide (m.slot ≠ e.slot) } ∧
      t.veh.entries = s.veh.entries ∧ t.counters = s.counters ∧ t.link = s.link ∧ SameMeasuring s t) ∧
    (NoneLeavesClosing e s →
      (e.state = .offered → ∃ t, exec (.cederWaitExpiry e.slot) s = .next t ∧
        t.former = { s.former with merges := s.former.merges.filter fun m => decide (m.slot ≠ e.slot) } ∧
        t.veh.entries = withLinkedAxles e (fun a => { a with kind := .part, link := none }) s.veh.entries ∧
        t.counters = s.counters ∧ t.link = s.link ∧ SameMeasuring s t) ∧
      (e.state = .waiting → ∃ t, exec (.ownerWaitExpiry e.slot) s = .next t ∧
        t.former = { s.former with merges := s.former.merges.filter fun m => decide (m.slot ≠ e.slot) } ∧
        t.veh.entries = withLinkedAxles e (fun a => { a with kind := .part, link := none }) s.veh.entries ∧
        t.counters = s.counters ∧ t.link = s.link ∧ SameMeasuring s t) ∧
      (e.state = .taken → ∃ t, exec (.confirmationWaitExpiry e.slot) s = .next t ∧
        t.former = { s.former with merges := s.former.merges.filter fun m => decide (m.slot ≠ e.slot) } ∧
        t.veh.entries = withLinkedAxles e (fun a => { a with unconfirmed := true, link := none }) s.veh.entries ∧
        t.counters = s.counters.bump .unconfirmed ∧ t.link = s.link ∧ SameMeasuring s t)) ∧
    ∀ (v : Vehicle) (before behind : List Vehicle), LastWaitOf e v before behind s → v.axles ≠ [] →
      (e.state = .offered → ∃ t, exec (.cederWaitExpiry e.slot) s = .next t ∧
        t.former = { s.former with merges := s.former.merges.filter fun m => decide (m.slot ≠ e.slot) } ∧
        LeftClosing v (changedAxles e (fun a => { a with kind := .part, link := none }) v.axles) s t ∧ SameMeasuring s t) ∧
      (e.state = .waiting → ∃ t, exec (.ownerWaitExpiry e.slot) s = .next t ∧
        t.former = { s.former with merges := s.former.merges.filter fun m => decide (m.slot ≠ e.slot) } ∧
        LeftClosing v (changedAxles e (fun a => { a with kind := .part, link := none }) v.axles) s t ∧ SameMeasuring s t) ∧
      (e.state = .taken → ∃ t, exec (.confirmationWaitExpiry e.slot) s = .next t ∧
        t.former = { s.former with merges := s.former.merges.filter fun m => decide (m.slot ≠ e.slot) } ∧
        LeftClosing v (changedAxles e (fun a => { a with unconfirmed := true, link := none }) v.axles) s t ∧
        t.counters.unconfirmed = satInc s.counters.unconfirmed ∧ SameMeasuring s t)

/-- R67, R74, R76, R77, R97, R128, R149: a HALF_AXLE that does not come in RUN from the ALIGNED neighbour with path L is
dropped and counted; otherwise it enters the peer-half table with its centre in own time, in place of its like or of the
oldest at a full table, or is matched with the oldest WAITING entry that it fits, whose axle becomes MERGED and takes its
place by time, or is PARTIAL when the queue refuses the MERGE_TAKE; an entry leaves the table at its expiry. -/
def Obligations.PeerHalvesEnterMatchAndExpire : Prop :=
  (∀ (s : State) (h : PeerHalf), h ∈ s.former.halves → reached s.tick h.expiry = true →
    exec (.peerHalfExpiry h.sender h.ref) s =
      .next (s.withFormer { s.former with halves := s.former.halves.filter fun x =>
        !(decide (x.sender = h.sender) && decide (x.ref = h.ref)) })) ∧
  (∀ (s : State) (f : RxFrame) (rest : List RxFrame), AtFront 0x10 f rest s →
    (s.ctl.station ≠ .run ∨ halfMalformed f.payload = true ∨ byteAt f.payload 1 ≠ 0 ∨ ownerNeighbour s = none ∨
      ∃ p, ownerNeighbour s = some p ∧ p.station ≠ f.source) →
    ∃ t, exec .halfAxleReceived s = .next t ∧ t.counters = s.counters.bump .halvesDropped ∧ t.former = s.former ∧
      t.veh.entries = s.veh.entries ∧ t.link = takenLink rest s ∧ SameMeasuring s t) ∧
  (∀ (s : State) (f : RxFrame) (rest : List RxFrame) (p : Peer), AtFront 0x10 f rest s → s.ctl.station = .run →
    halfMalformed f.payload = false → byteAt f.payload 1 = 0 → ownerNeighbour s = some p → p.station = f.source →
    (∀ (before behind : List PeerHalf) (x : PeerHalf), s.former.halves = before ++ x :: behind → x.sender = f.source →
      x.ref = byteAt f.payload 0 → (∀ y ∈ before, y.sender = f.source → y.ref ≠ byteAt f.payload 0) →
      (∀ e ∈ s.former.merges, e.state ≠ .waiting) →
      ∃ t h, exec .halfAxleReceived s = .next t ∧ t.former = { s.former with halves := before ++ h :: behind } ∧
        PeerHalfFrom s p f h ∧ t.counters = s.counters ∧ t.veh.entries = s.veh.entries ∧ t.link = takenLink rest s ∧
        SameMeasuring s t) ∧
    ((∀ x ∈ s.former.halves, x.sender = f.source → x.ref ≠ byteAt f.payload 0) →
    (s.former.halves.length < 8 → (∀ e ∈ s.former.merges, e.state ≠ .waiting) →
      ∃ t h, exec .halfAxleReceived s = .next t ∧ t.former = { s.former with halves := s.former.halves ++ [h] } ∧
        PeerHalfFrom s p f h ∧ t.counters = s.counters ∧ t.veh.entries = s.veh.entries ∧ t.link = takenLink rest s ∧
        SameMeasuring s t) ∧
    (∀ (oldest : PeerHalf) (newer : List PeerHalf), s.former.halves = oldest :: newer → newer.length = 7 →
      (∀ e ∈ s.former.merges, e.state ≠ .waiting) →
      ∃ t h, exec .halfAxleReceived s = .next t ∧ t.former = { s.former with halves := newer ++ [h] } ∧
        PeerHalfFrom s p f h ∧ t.counters = s.counters.bump .halvesDropped ∧ t.veh.entries = s.veh.entries ∧
        t.link = takenLink rest s ∧ SameMeasuring s t) ∧
    (∀ (mb ma : List MergeEntry) (e : MergeEntry) (centre : HalfTick) (speed : Nat),
      s.former.merges = mb ++ e :: ma → (s.former.merges.map MergeEntry.slot).Nodup → e.state = .waiting →
      e.partner = f.source → centre = BitVec.ofNat 32 (numAt f.payload 2 4) - (p.offset + p.offset) →
      speed = (2 * (numAt f.payload 6 2 * 1000) + 36) / 72 → within centre e.own.time 160 = true →
      speedsAgree speed e.own.speed = true →
      (∀ x ∈ mb, x.state = .waiting → x.partner = f.source → within centre x.own.time 160 = true →
        speedsAgree speed x.own.speed = false) →
      s.former.halves.length < 8 →
      (∀ (vb va : List Vehicle) (v : Vehicle) (older newer : List Axle) (a : Axle), s.link.queue.length < 16 →
      s.veh.entries = vb ++ v :: va → v.number = e.vehicle → (∀ x ∈ vb ++ va, x.number ≠ e.vehicle) →
      v.axles = older ++ a :: newer → a.link = some e.slot → (∀ x ∈ older, x.link ≠ some e.slot) →
      ∃ t axles, exec .halfAxleReceived s = .next t ∧
        t.former = { s.former with
          merges := mb ++ { e with state := .taken, ref := some (byteAt f.payload 0), deadline := s.tick + 2400 } :: ma } ∧
        t.veh.entries = vb ++ { v with
          axles := axles, uncalibrated := v.uncalibrated || (halfWheel f.payload).uncalibrated } :: va ∧
        PlacedByTime { a with
          time := meanTime e.own.time centre
          speed := (e.own.speed + speed + 1) / 2
          left := some e.own.data
          right := some (halfWheel f.payload)
          kind := .merged
          ref := some (byteAt f.payload 0) } (older ++ newer) axles ∧
        t.link.queue = s.link.queue ++ [mkFrame .mergeTake e.partner [byteAt f.payload 0]] ∧
        t.counters = s.counters.bump .mergesTaken ∧ t.link.rxQueue = rest ∧ SameMeasuring s t) ∧
      (s.link.queue.length = 16 → (∀ x ∈ s.link.queue, frameClass x.kind = 2 → x.sending = true) →
        (∀ x ∈ s.link.queue, x.kind = .vehicle → x.sending = true) →
        (NoneLeavesClosing e s →
          ∃ t h, exec .halfAxleReceived s = .next t ∧
            t.former = { s.former with merges := mb ++ ma, halves := s.former.halves ++ [h] } ∧ PeerHalfFrom s p f h ∧
            t.veh.entries = withLinkedAxles e (fun a => { a with kind := .part, link := none }) s.veh.entries ∧
            t.counters = (s.counters.bump .txDrop).bump .mergeFull ∧ t.raised = { s.raised with queueLoss := true } ∧
            t.link.queue.map TxFrame.payload = s.link.queue.map TxFrame.payload ∧ t.link.rxQueue = rest ∧
            SameMeasuring s t) ∧
        ∀ (v : Vehicle) (before behind : List Vehicle), LastWaitOf e v before behind s → v.axles ≠ [] →
          ∃ t h, exec .halfAxleReceived s = .next t ∧
            t.former = { s.former with merges := mb ++ ma, halves := s.former.halves ++ [h] } ∧ PeerHalfFrom s p f h ∧
            LeftClosing v (changedAxles e (fun a => { a with kind := .part, link := none }) v.axles) s t ∧
            t.counters.mergeFull = satInc s.counters.mergeFull ∧ t.raised.queueLoss = true ∧ t.link.rxQueue = rest ∧
            SameMeasuring s t)))) ∧
  ∀ h1 h2 : HalfTick,
    (0 ≤ sdiff h2 h1 → meanTime h1 h2 = h1 + BitVec.ofNat 32 (((sdiff h2 h1).natAbs + 1) / 2)) ∧
    (sdiff h2 h1 < 0 → meanTime h1 h2 = h2 + BitVec.ofNat 32 (((sdiff h2 h1).natAbs + 1) / 2))

/-- R72, R97, R170: a malformed MERGE_TAKE is dropped. A MERGE_TAKE cedes the OFFERED axle of its reference and partner, is
answered again for a CEDED one, and is refused when it finds no entry. A vehicle in CLOSING whose last wait is ceded so
leaves that state at the same event, or is freed when the axle was its last. -/
def Obligations.MergeTakeIsCededOrRefused : Prop :=
  (∀ (s : State) (f : RxFrame) (rest : List RxFrame), AtFront 0x02 f rest s → f.payload.length ≠ 1 →
    exec .mergeTakeReceived s = .next (taken rest s)) ∧
  ∀ (s : State) (f : RxFrame) (rest : List RxFrame) (r : Byte), AtFront 0x02 f rest s → RoomForReply s → f.payload = [r] →
    (∀ e ∈ s.former.merges, e.state = .offered → e.ref = some r → e.partner = f.source →
      (∀ x ∈ s.former.merges, (x.state = .offered ∨ x.state = .ceded) → x.ref = some r → x.partner = f.source → x = e) →
      (NoneLeavesClosing e s →
        ∃ t, exec .mergeTakeReceived s = .next t ∧
          t.former = { s.former with
            merges := s.former.merges.map fun m => if m.slot = e.slot then { m with state := .ceded } else m } ∧
          t.veh.entries = (s.veh.entries.map fun v =>
            if v.number = e.vehicle then { v with axles := v.axles.filter fun a => !decide (a.link = some e.slot) } else v) ∧
          t.link.queue = s.link.queue ++ [mkFrame .mergeCede f.source [r]] ∧ t.link.rxQueue = rest ∧
          t.counters = s.counters.bump .mergesCeded ∧ SameMeasuring s t) ∧
      (∀ (v : Vehicle) (before behind : List Vehicle) (axles : List Axle), LastWaitOf e v before behind s →
        axles = (v.axles.filter fun a => !decide (a.link = some e.slot)) →
        ∃ t, exec .mergeTakeReceived s = .next t ∧
          t.former = { s.former with
            merges := s.former.merges.map fun m => if m.slot = e.slot then { m with state := .ceded } else m } ∧
          mkFrame .mergeCede f.source [r] ∈ t.link.queue ∧ t.link.rxQueue = rest ∧
          (axles ≠ [] → LeftClosing v axles s t ∧ t.counters.mergesCeded = satInc s.counters.mergesCeded) ∧
          (axles = [] → t.veh.entries = before ++ behind ∧
            t.veh.closingOrder = s.veh.closingOrder.filter (fun n => decide (n ≠ v.number)) ∧
            t.link.queue = s.link.queue ++ [mkFrame .mergeCede f.source [r]] ∧
            t.counters = (s.counters.bump .mergesCeded).bump .cededWhole) ∧
          SameMeasuring s t)) ∧
    (∀ e ∈ s.former.merges, e.state = .ceded → e.ref = some r → e.partner = f.source →
      (∀ x ∈ s.former.merges, (x.state = .offered ∨ x.state = .ceded) → x.ref = some r → x.partner = f.source → x = e) →
      ∃ t, exec .mergeTakeReceived s = .next t ∧ t.former = s.former ∧ t.veh.entries = s.veh.entries ∧
        t.link.queue = s.link.queue ++ [mkFrame .mergeCede f.source [r]] ∧ t.counters = s.counters ∧
        SameMeasuring s t) ∧
    ((∀ x ∈ s.former.merges, (x.state = .offered ∨ x.state = .ceded) → x.ref = some r → x.partner ≠ f.source) →
      ∃ t, exec .mergeTakeReceived s = .next t ∧ t.former = s.former ∧ t.veh.entries = s.veh.entries ∧
        t.link.queue.map TxFrame.kind = s.link.queue.map TxFrame.kind ++ [.mergeRefuse] ∧
        t.link.queue.map TxFrame.dest = s.link.queue.map TxFrame.dest ++ [f.source] ∧
        t.link.queue.map TxFrame.payload = s.link.queue.map TxFrame.payload ++ [[r]] ∧
        t.counters = s.counters.bump .mergeConflict ∧ t.raised.mergeConflict = true ∧ SameMeasuring s t)

/-- R79, R80, R97, R170: a malformed frame is dropped. A MERGE_CEDE confirms the TAKEN entry of its reference and partner, a
MERGE_REFUSE turns its axle back into the own wheel's PARTIAL axle, and either is a conflict when it finds no entry. A
vehicle in CLOSING whose last wait ends so leaves that state at the same event. With two such entries the choice is the
model's (assumption 33); here there is one. -/
def Obligations.CedeConfirmsAndRefuseReverts : Prop :=
  (∀ (s : State) (f : RxFrame) (rest : List RxFrame), f.payload.length ≠ 1 →
    (AtFront 0x03 f rest s → exec .mergeCedeReceived s = .next (taken rest s)) ∧
    (AtFront 0x04 f rest s → exec .mergeRefuseReceived s = .next (taken rest s))) ∧
  (∀ (s : State) (f : RxFrame) (rest : List RxFrame) (r : Byte) (e : MergeEntry), AtFront 0x03 f rest s → f.payload = [r] →
    e ∈ s.former.merges → e.state = .taken → e.ref = some r → e.partner = f.source →
    (∀ x ∈ s.former.merges, x.state = .taken → x.ref = some r → x.partner = f.source → x = e) →
    (NoneLeavesClosing e s →
      ∃ t, exec .mergeCedeReceived s = .next t ∧
        t.former = { s.former with merges := s.former.merges.filter fun m => decide (m.slot ≠ e.slot) } ∧
        t.veh.entries = withLinkedAxles e (fun a => { a with link := none }) s.veh.entries ∧
        t.counters = s.counters ∧ t.link = takenLink rest s ∧ SameMeasuring s t) ∧
    ∀ (v : Vehicle) (before behind : List Vehicle), LastWaitOf e v before behind s → v.axles ≠ [] →
      ∃ t, exec .mergeCedeReceived s = .next t ∧
        t.former = { s.former with merges := s.former.merges.filter fun m => decide (m.slot ≠ e.slot) } ∧
        LeftClosing v (changedAxles e (fun a => { a with link := none }) v.axles) s t ∧ t.link.rxQueue = rest ∧
        SameMeasuring s t) ∧
  (∀ (s : State) (f : RxFrame) (rest : List RxFrame) (r : Byte) (e : MergeEntry) (v : Vehicle) (before behind : List Vehicle)
    (older newer : List Axle) (a : Axle),
    AtFront 0x04 f rest s → f.payload = [r] → e ∈ s.former.merges → e.state = .taken → e.ref = some r →
    e.partner = f.source → (∀ x ∈ s.former.merges, x.state = .taken → x.ref = some r → x.partner = f.source → x = e) →
    s.veh.entries = before ++ v :: behind → v.number = e.vehicle → (∀ x ∈ before ++ behind, x.number ≠ e.vehicle) →
    v.axles = older ++ a :: newer → a.link = some e.slot → (∀ x ∈ older, x.link ≠ some e.slot) →
    ∃ t axles, exec .mergeRefuseReceived s = .next t ∧
      t.former = { s.former with merges := s.former.merges.filter fun m => decide (m.slot ≠ e.slot) } ∧
      PlacedByTime { a with
        time := e.own.time
        speed := e.own.speed
        left := leftOf e.own
        right := rightOf e.own
        kind := .part
        link := none } (older ++ newer) axles ∧
      (NoneLeavesClosing e s → t.veh.entries = before ++ { v with axles := axles } :: behind ∧
        t.counters = s.counters.bump .mergeConflict) ∧
      (LastWaitOf e v before behind s → LeftClosing v axles s t ∧
        t.counters.mergeConflict = satInc s.counters.mergeConflict) ∧
      t.raised.mergeConflict = true ∧ t.link.rxQueue = rest ∧ SameMeasuring s t) ∧
  (∀ (s : State) (f : RxFrame) (rest : List RxFrame) (r : Byte), AtFront 0x03 f rest s → f.payload = [r] →
    (∀ x ∈ s.former.merges, x.state = .taken → x.ref = some r → x.partner ≠ f.source) →
    ∃ t, exec .mergeCedeReceived s = .next t ∧ t.former = s.former ∧ t.veh.entries = s.veh.entries ∧
      t.counters = s.counters.bump .mergeConflict ∧ t.raised.mergeConflict = true ∧ SameMeasuring s t) ∧
  ∀ (s : State) (f : RxFrame) (rest : List RxFrame) (r : Byte), AtFront 0x04 f rest s → f.payload = [r] →
    (∀ x ∈ s.former.merges, x.state = .taken → x.ref = some r → x.partner ≠ f.source) →
    ∃ t, exec .mergeRefuseReceived s = .next t ∧ t.former = s.former ∧ t.veh.entries = s.veh.entries ∧
      t.counters = s.counters.bump .mergeConflict ∧ t.raised.mergeConflict = true ∧ SameMeasuring s t

/-! ### The vehicle assembler, station control's timers, the classifier and screen -/

/-- R66, R86 to R92, R101: an axle handed over is counted and ends a lane-clear run. It joins the OPEN entry when it passes
both tests and the entry holds fewer than 12 axles; otherwise the entry closes for the cause that applies and the axle opens
a vehicle; without a free entry it is lost. -/
def Obligations.AxlesJoinOrOpenVehicles : Prop :=
  (∀ (s : State) (a : Axle), (handAxle a s).1.veh.runCount = 0 ∧
    handAxle a s =
      placeAxle a ((s.withVeh { s.veh with runCount := 0 }).withCounters (s.counters.bump .axlesFormed))) ∧
  (∀ (s : State) (a : Axle), openEntry s = none → s.veh.entries.length < 8 →
    ∃ v, (placeAxle a s).1 = s.withVeh { s.veh with
        entries := s.veh.entries ++ [v], counter := s.veh.counter + 1, lastOpened := some s.veh.counter } ∧
      (placeAxle a s).2 = some s.veh.counter ∧ v.number = s.veh.counter ∧ v.state = .opened ∧ v.axles = [a] ∧
      v.firstSpeed = a.speed ∧ v.lastSpeed = a.speed ∧ v.lastTime = a.time ∧ v.lead = 0 ∧ v.truncated = false ∧
      v.continuation = false ∧ v.cause = none ∧
      v.gapExpiry = some (s.tick + BitVec.ofNat 32 ((s.setup.maxSpacing * 8000 + a.speed - 1) / a.speed + 2000))) ∧
  (∀ (s : State) (a : Axle), openEntry s = none → s.veh.entries.length = 8 →
    placeAxle a s = (raise .queueLoss (bump .vehicleLoss s), none)) ∧
  (∀ (s : State) (a : Axle) (v : Vehicle), openEntry s = some v →
    (2 * ((a.speed + v.lastSpeed) * (sdiff a.time v.lastTime).natAbs) + 32000) / 64000 ≤ s.setup.maxSpacing →
    ((a.speed : Int) - v.firstSpeed).natAbs * 5 ≤ v.firstSpeed →
    (v.axles.length < 12 →
      placeAxle a s = (changeOpen (joinVehicle s a) s, some v.number) ∧
      (joinVehicle s a v).axles.length = v.axles.length + 1 ∧ a ∈ (joinVehicle s a v).axles ∧
      (joinVehicle s a v).firstSpeed = v.firstSpeed ∧ (joinVehicle s a v).state = v.state ∧
      (joinVehicle s a v).gapExpiry =
        some (s.tick + BitVec.ofNat 32 ((s.setup.maxSpacing * 8000 + a.speed - 1) / a.speed + 2000)) ∧
      (isLater a.time v.lastTime = true →
        (joinVehicle s a v).lastTime = a.time ∧ (joinVehicle s a v).lastSpeed = a.speed) ∧
      (isLater a.time v.lastTime = false →
        (joinVehicle s a v).lastTime = v.lastTime ∧ (joinVehicle s a v).lastSpeed = v.lastSpeed)) ∧
    (v.axles.length = 12 →
      placeAxle a s = openVehicle a (some (min 255 (v.lead + 12)))
        (closeEntry v.number .axleLimit (changeOpen (fun x => { x with truncated := true }) s)))) ∧
  (∀ (s : State) (a : Axle) (v : Vehicle), openEntry s = some v → s.setup.maxSpacing < 65535 →
    s.setup.maxSpacing < (2 * ((a.speed + v.lastSpeed) * (sdiff a.time v.lastTime).natAbs) + 32000) / 64000 →
    placeAxle a s = openVehicle a none (closeEntry v.number .spacing s)) ∧
  ∀ (s : State) (a : Axle) (v : Vehicle), openEntry s = some v →
    (2 * ((a.speed + v.lastSpeed) * (sdiff a.time v.lastTime).natAbs) + 32000) / 64000 ≤ s.setup.maxSpacing →
    v.firstSpeed < ((a.speed : Int) - v.firstSpeed).natAbs * 5 →
    placeAxle a s = openVehicle a none (closeEntry v.number .speed s)

/-- R92, R97, R98, R101: at the gap timer's expiry the OPEN entry closes with cause GAP. With no linked merge it is classed at
that event and READY or QUEUED, or discarded when it is empty; with one it waits in CLOSING. A lane that is clear then in RUN
starts its lane-clear run. -/
def Obligations.GapTimerClosesTheVehicle : Prop :=
  ∀ (s : State) (v : Vehicle) (before behind : List Vehicle) (e : Tick),
    s.veh.entries = before ++ v :: behind → v.state = .opened → v.gapExpiry = some e → reached s.tick e = true →
    (∀ x ∈ before ++ behind, x.state ≠ .opened ∧ x.number ≠ v.number) →
    ((∀ m ∈ s.former.merges, m.vehicle = v.number → m.state = .ceded) → v.axles ≠ [] →
      ∃ t w, exec .gapTimerExpiry s = .next t ∧ w ∈ t.veh.entries ∧ w.number = v.number ∧ w.axles = v.axles ∧
        w.cause = some .gap ∧ w.gapExpiry = none ∧ (w.state = .ready ∨ w.state = .queued) ∧ w.outcome.isSome = true ∧
        t.veh.closingOrder = s.veh.closingOrder ++ [v.number] ∧ openEntry t = none ∧ t.former = s.former ∧
        (s.ctl.station = .run → laneClear t = true → t.veh.runCount = s.setup.clearCount) ∧ SameMeasuring s t) ∧
    ((∀ m ∈ s.former.merges, m.vehicle = v.number → m.state = .ceded) → v.axles = [] →
      ∃ t, exec .gapTimerExpiry s = .next t ∧ t.veh.entries = before ++ behind ∧
        (s.ctl.station = .run → laneClear t = true → t.veh.runCount = s.setup.clearCount) ∧
        t.counters = s.counters.bump .cededWhole ∧ t.former = s.former ∧ t.link = s.link ∧ SameMeasuring s t) ∧
    ((∃ m ∈ s.former.merges, m.vehicle = v.number ∧ m.state ≠ .ceded) →
      ∃ t, exec .gapTimerExpiry s = .next t ∧
        t.veh.entries = before ++ { v with state := .closing, cause := some .gap, gapExpiry := none } :: behind ∧
        t.counters = s.counters ∧ t.former = s.former ∧ t.link = s.link ∧ SameMeasuring s t)

/-- R93, R94, R101: the presence state at a change of the line, at the debounce expiry and at the stuck expiry, and the
lane-clear run that starts where such an expiry, or any other command of one event, makes the lane clear in RUN, and at no
other of these events. -/
def Obligations.PresenceFollowsTheLine : Prop :=
  (∀ s : State, s.pins.line = .vacant →
    ∃ t, exec (.presenceLineChange .occupied) s = .next t ∧ t.pins = { s.pins with line := .occupied } ∧
      (s.veh.presence = some .vacant → t.veh.presence = some (.occupied (s.tick + 480000)) ∧ t.veh.runCount = 0) ∧
      (∀ e, s.veh.presence = some (.vacating e) → t.veh.presence = some (.occupied (s.tick + 480000))) ∧
      (s.veh.presence = none → t.veh.presence = none) ∧
      t.veh.entries = s.veh.entries ∧ t.tick = s.tick ∧ t.det = s.det ∧ t.former = s.former ∧ t.link = s.link ∧
      t.counters = s.counters) ∧
  (∀ s : State, s.pins.line = .occupied →
    ∃ t, exec (.presenceLineChange .vacant) s = .next t ∧ t.pins = { s.pins with line := .vacant } ∧
      (∀ e, s.veh.presence = some (.occupied e) → t.veh.presence = some (.vacating (s.tick + 320))) ∧
      (s.veh.presence = some .stuck → t.veh.presence = some (.vacating (s.tick + 320))) ∧
      (s.veh.presence = none → t.veh.presence = none) ∧
      t.veh.entries = s.veh.entries ∧ t.tick = s.tick ∧ t.det = s.det ∧ t.former = s.former ∧ t.link = s.link ∧
      t.counters = s.counters) ∧
  (∀ (s : State) (e : Tick), s.veh.presence = some (.vacating e) → reached s.tick e = true →
    ∃ t, exec .debounceExpiry s = .next t ∧ t.veh.presence = some .vacant ∧
      (openEntry s = none → t.veh.entries = s.veh.entries) ∧ (openCount s ≤ 1 → openEntry t = none) ∧
      (s.ctl.station = .run → laneClear t = true → t.veh.runCount = s.setup.clearCount) ∧
      t.former = s.former ∧ SameMeasuring s t) ∧
  (∀ (c : Instr) (s t : State), endsWithLaneTest c = true → exec c s = .next t →
    (RunStarts s t → t.veh.runCount = t.setup.clearCount) ∧ (¬RunStarts s t → t.veh.runCount ≤ s.veh.runCount)) ∧
  ∀ (s : State) (e : Tick), s.veh.presence = some (.occupied e) → reached s.tick e = true →
    ∃ t, exec .stuckExpiry s = .next t ∧ t.veh.presence = some .stuck ∧ t.veh.entries = s.veh.entries ∧
      (s.ctl.station = .run → laneClear t = true → t.veh.runCount = s.setup.clearCount) ∧
      t.former = s.former ∧ t.link = s.link ∧ t.counters = s.counters ∧ SameMeasuring s t

/-- R57, R101, R118, R119: at the beacon timer's expiry a beacon is formed from the state, then a TEMPERATURE report when the
count is due, then a LANE_CLEAR frame while a run is under way; the next expiry is one period after the one reached. -/
def Obligations.BeaconTimerFormsBeaconsAndReports : Prop :=
  ∀ (s : State) (e : Tick), s.ctl.beaconExpiry = some e → reached s.tick e = true →
    (∀ f ∈ s.link.queue, f.kind = .beacon → f.sending = true) → s.link.queue.length ≤ 13 →
    ∃ t, exec .beaconTimerExpiry s = .next t ∧ t.ctl.beaconExpiry = some (e + 8000) ∧
      t.link.queue.map TxFrame.kind = s.link.queue.map TxFrame.kind ++ [.beacon] ++
        (if s.setup.interval ≠ 0 ∧ s.setup.interval ≤ s.ctl.reportCount + 1 then [.temperature] else []) ++
        (if 0 < s.veh.runCount then [.laneClear] else []) ∧
      (t.link.queue[s.link.queue.length]?).map TxFrame.payload = some (beaconPayload s) ∧
      t.veh = { s.veh with runCount := s.veh.runCount - 1 } ∧
      t.ctl.reportCount = (if s.setup.interval = 0 then s.ctl.reportCount
        else if s.setup.interval ≤ s.ctl.reportCount + 1 then 0 else s.ctl.reportCount + 1) ∧
      (s.setup.interval ≠ 0 → s.setup.interval ≤ s.ctl.reportCount + 1 →
        t.temp = { s.temp with least := s.temp.value, greatest := s.temp.value, goodReadings := 0 }) ∧
      t.ctl.station = s.ctl.station ∧ t.counters = s.counters ∧ t.raised = s.raised ∧ t.former = s.former ∧
      t.tick = s.tick ∧ t.det = s.det ∧ t.peers = s.peers ∧ t.cal = s.cal

/-- R12, R182, R183: a self-test wait that expires without a good set sends every detector to FAULT, records the finding, offers
the START report and the first beacon, and, every detector being in FAULT, the station enters RUN at that event. -/
def Obligations.SilentSelftestEndsInRun : Prop :=
  ∀ (s : State) (e : Tick), s.ctl.station = .selftest → s.ctl.waitExpiry = some e → reached s.tick e = true →
    s.link.queue = [] → s.setup.interval ≠ 1 → s.ctl.reportCount = 0 → s.veh.runCount = 0 →
    ∃ t, exec .selftestWaitExpiry s = .next t ∧ t.ctl.station = .run ∧ t.ctl.waitExpiry = none ∧
      t.ctl.findings = ⟨true, s.cal.failed⟩ ∧ t.ctl.beaconExpiry = some (s.tick + 8000) ∧
      t.det.al.state = .fault ∧ t.det.ar.state = .fault ∧ t.det.bl.state = .fault ∧ t.det.br.state = .fault ∧
      (s.det.al.state ≠ .fault → t.det.al.good = 0) ∧ (s.det.br.state ≠ .fault → t.det.br.good = 0) ∧
      t.link.queue.map TxFrame.kind = [.start, .beacon] ∧ t.tick = s.tick ∧ t.temp = s.temp ∧ t.cal = s.cal ∧
      t.counters = s.counters ∧ t.former = s.former ∧ t.veh.entries = s.veh.entries

/-- R105 to R108: the class of a vehicle. -/
def Obligations.FirstMatchingEntryGivesTheClass : Prop :=
  (∀ (w : Working) (i : ScreenInput) (v : Vehicle), totalAxles v = 1 → (classify w i v).cls = 0 ∧ (classify w i v).entry = none) ∧
  (∀ (w : Working) (i : ScreenInput) (v : Vehicle), 10 ≤ totalAxles v →
    (classify w i v).cls = 15 ∧ (classify w i v).entry = none) ∧
  (∀ (w : Working) (i : ScreenInput) (v : Vehicle) (c : ClassEntry) (before behind : List ClassEntry),
    2 ≤ totalAxles v → totalAxles v ≤ 9 → w.pages[totalAxles v - 2]? = some (before ++ c :: behind) →
    (∀ x ∈ before, entryMatches v.axles x = false) → entryMatches v.axles c = true →
    (classify w i v).cls = c.code ∧ (classify w i v).entry = some before.length) ∧
  (∀ (w : Working) (i : ScreenInput) (v : Vehicle) (page : List ClassEntry),
    2 ≤ totalAxles v → totalAxles v ≤ 9 → w.pages[totalAxles v - 2]? = some page →
    (∀ x ∈ page, entryMatches v.axles x = false) →
    (classify w i v).cls = 0 ∧ (classify w i v).entry = none) ∧
  ∀ (l : List Axle) (c : ClassEntry), entryMatches l c = true ↔
    (∀ x ∈ (spacings l).zip c.gaps, x.2.1 ≤ (2 * x.1 + 100) / 200 ∧ (2 * x.1 + 100) / 200 ≤ x.2.2) ∧
    ((c.grossLow = 0 ∧ c.grossHigh = 1000) ∨
      ((∀ d ∈ allWheels l, d.load.isSome = true) ∧ c.grossLow * 100 ≤ grossOf l ∧ grossOf l ≤ c.grossHigh * 100))

/-- R111 to R115: the first condition of R111 that fails is the reason of NOT_SCREENED; with none failing the outcome is
OVERLOAD exactly when an axle or the gross exceeds the limits of the matching entry, with the exceeding axles in order, and
CLEAR otherwise; OVERLOAD alone gives an OVERLOAD frame, which takes the empty immediate slot or else is offered to the queue
as a class-0 frame, with the notice state that says what became of it. -/
def Obligations.OverloadNeedsEveryCondition : Prop :=
  (∀ (w : Working) (i : ScreenInput) (v : Vehicle), (classify w i v).screening = .overload →
    i.locked = true ∧ i.record.isSome = true ∧ i.calibrated = true ∧ v.uncalibrated = false ∧ i.screenOn = true ∧
    1 ≤ (classify w i v).cls ∧ (classify w i v).cls ≤ 14 ∧
    (∀ r, i.record = some r → r.speedLow ≤ recordSpeed v.firstSpeed ∧ recordSpeed v.firstSpeed ≤ r.speedHigh ∧
      ∃ x, firstTemp v.axles = some x ∧ r.tempLow ≤ x ∧ x ≤ r.tempHigh) ∧
    worstSource v.axles ≠ none ∧ worstSource v.axles ≠ some .default ∧
    (∀ a ∈ v.axles, a.kind ≠ .part ∧ a.unconfirmed = false) ∧
    (∀ d ∈ allWheels v.axles, d.clipped = false ∧ d.disagree = false ∧ d.notWeighed = false) ∧
    v.truncated = false ∧ v.continuation = false ∧
    ((classify w i v).exceeding ≠ [] ∨ (classify w i v).grossExceeds = true)) ∧
  (∀ (w : Working) (i : ScreenInput) (v : Vehicle) (before behind : List (Prop × Reason)) (c : Prop) (reason : Reason),
    screeningConditions w i v = before ++ (c, reason) :: behind → (∀ x ∈ before, x.1) → ¬c →
    (classify w i v).screening = .notScreened reason ∧ (classify w i v).exceeding = [] ∧
    (classify w i v).grossExceeds = false) ∧
  (∀ (w : Working) (i : ScreenInput) (v : Vehicle), (∀ x ∈ screeningConditions w i v, x.1) →
    ∃ c n, matchOf w v = some (c, n) ∧
      ((classify w i v).screening = .overload ↔
        (∃ a ∈ v.axles, c.axleLimit * 100 < axleLoad a) ∨ c.grossLimit * 100 < grossOf v.axles) ∧
      ((classify w i v).screening ≠ .overload → (classify w i v).screening = .clear ∧ (classify w i v).exceeding = [] ∧
        (classify w i v).grossExceeds = false) ∧
      ((classify w i v).screening = .overload →
        ((classify w i v).grossExceeds = true ↔ c.grossLimit * 100 < grossOf v.axles) ∧
        (classify w i v).exceeding.Pairwise (fun x y => x.1 < y.1) ∧
        ∀ k load, (k, load) ∈ (classify w i v).exceeding ↔
          ∃ a, 1 ≤ k ∧ v.axles[k - 1]? = some a ∧ load = axleLoad a ∧ c.axleLimit * 100 < axleLoad a)) ∧
  (∀ a : Axle, axleLoad a = ((a.left.bind WheelData.load).getD 0) + ((a.right.bind WheelData.load).getD 0)) ∧
  (∀ (w : Working) (i : ScreenInput) (v : Vehicle), i.locked = false ∨ i.record = none →
    (classify w i v).screening = .notScreened .notLocked) ∧
  (∀ (w : Working) (i : ScreenInput) (v : Vehicle), i.locked = true → i.record.isSome = true →
    i.calibrated = false ∨ v.uncalibrated = true → (classify w i v).screening = .notScreened .notCalibrated) ∧
  (∀ (w : Working) (i : ScreenInput) (v : Vehicle), i.locked = true → i.record.isSome = true → i.calibrated = true →
    v.uncalibrated = false → i.screenOn = false → (classify w i v).screening = .notScreened .screenOff) ∧
  (∀ (s : State) (v : Vehicle), (classify s.cal.working (screenInput s) v).screening ≠ .overload →
    (classVehicle v s).link = s.link) ∧
  (∀ (s : State) (v : Vehicle), (classify s.cal.working (screenInput s) v).screening = .overload →
    s.link.immediate = none →
    (classVehicle v s).link = { s.link with immediate := some (mkFrame .overload broadcast
      (overloadPayload (ownLane s) v (classify s.cal.working (screenInput s) v))) } ∧
    (∀ w ∈ (classVehicle v s).veh.entries, w.number = v.number → w.state = .ready ∧
      w.outcome = some { classify s.cal.working (screenInput s) v with notice := .slot }) ∧
    (classVehicle v s).counters = s.counters) ∧
  ∀ (s : State) (v : Vehicle) (f g : TxFrame), (classify s.cal.working (screenInput s) v).screening = .overload →
    s.link.immediate = some g →
    f = mkFrame .overload broadcast (overloadPayload (ownLane s) v (classify s.cal.working (screenInput s) v)) →
    (classVehicle v s).link = (offerUrgent f s).1.link ∧ (classVehicle v s).counters = (offerUrgent f s).1.counters ∧
    (classVehicle v s).raised = (offerUrgent f s).1.raised ∧ (classVehicle v s).link.immediate = some g ∧
    (∀ w ∈ (classVehicle v s).veh.entries, w.number ≠ v.number → w ∈ (offerUrgent f s).1.veh.entries) ∧
    (∀ w ∈ (classVehicle v s).veh.entries, w.number = v.number → w.state = .ready ∧
      w.outcome = some { classify s.cal.working (screenInput s) v with
        notice := if (offerUrgent f s).2 then .queued else .dropped }) ∧
    (s.link.queue.length < 16 → (offerUrgent f s).2 = true ∧
      (classVehicle v s).link = { s.link with queue := s.link.queue ++ [f] } ∧ (classVehicle v s).counters = s.counters) ∧
    (s.link.queue.length = 16 → (∀ x ∈ s.link.queue, frameClass x.kind = 2 → x.sending = true) →
      (∀ x ∈ s.link.queue, x.kind = .vehicle → x.sending = true) → (offerUrgent f s).2 = false ∧
      (classVehicle v s).link.queue.map TxFrame.payload = s.link.queue.map TxFrame.payload ∧
      (classVehicle v s).counters = s.counters.bump .txDrop ∧
      (classVehicle v s).raised = { s.raised with queueLoss := true })

/-! ### The peer table -/

/-- R123, R52: what a beacon does by its source. A malformed one is not taken (R170). After every beacon taken the effective
temperature is re-chosen; that this includes a beacon from the lane's own number or from 255 is the model's reading
(assumption 20), since R131 says that the former does not change the effective temperature. -/
def Obligations.BeaconsReachThePeerTable : Prop :=
  ∀ (s : State) (f : RxFrame) (rest : List RxFrame), AtFront 0x20 f rest s →
    (beaconMalformed f.payload = true → exec .beaconReceived s = .next (taken rest s)) ∧
    (beaconMalformed f.payload = false → f.source = 255 →
      exec .beaconReceived s = .next (rechoose (taken rest s))) ∧
    (beaconMalformed f.payload = false → f.source = ownNumber s →
      exec .beaconReceived s = .next (rechoose (raise .duplicateId (taken rest s)))) ∧
    (beaconMalformed f.payload = false → f.source ≠ 255 → f.source ≠ ownNumber s →
      (∀ before p behind, s.peers = before ++ p :: behind → (∀ x ∈ before, x.station ≠ f.source) → p.station = f.source →
        exec .beaconReceived s =
          .next (rechoose ((taken rest s).withPeers (before ++ updatePeer p f :: behind)))) ∧
      ((∀ x ∈ s.peers, x.station ≠ f.source) → s.peers.length < 15 →
        exec .beaconReceived s = .next (rechoose ((taken rest s).withPeers (s.peers ++ [newPeer f])))) ∧
      (∀ before p behind, s.peers = before ++ p :: behind → (∀ x ∈ s.peers, x.station ≠ f.source) →
        s.peers.length = 15 → (∀ x ∈ before, x.station ≠ p.station) → p.state = .lost →
        (∀ x ∈ before ++ behind, x.state = .lost → sdiff s.tick x.last < sdiff s.tick p.last) →
        exec .beaconReceived s =
          .next (rechoose ((taken rest s).withPeers (before ++ newPeer f :: behind)))) ∧
      ((∀ x ∈ s.peers, x.station ≠ f.source) → s.peers.length = 15 → (∀ x ∈ s.peers, x.state ≠ .lost) →
        exec .beaconReceived s = .next (rechoose (raise .peerOverflow (taken rest s)))))

/-- R51, R68, R121, R124 to R126, R129: the entry of a new peer, its stable count and state at each later beacon, its loss at
the loss expiry and not before, what lane a peer claims, when it is fresh, and that a LOST one claims no lane, is not fresh and
is no usable neighbour. That LOSS_EXPIRY before its expiry, for a LOST entry or for none, completes and changes nothing is the
model's choice (assumption 3). -/
def Obligations.PeerEntriesFollowTheirBeacons : Prop :=
  (∀ f : RxFrame, (newPeer f).station = f.source ∧ (newPeer f).lane = byteAt f.payload 1 ∧
    (newPeer f).group = (byteAt f.payload 3).toNat % 4 ∧ (newPeer f).temp = intAt f.payload 8 ∧
    (newPeer f).last = f.stamp ∧ (newPeer f).offset = BitVec.ofNat 32 (numAt f.payload 4 4) - f.stamp ∧
    (beaconMalformed f.payload = false → sourceCode (newPeer f).source = (byteAt f.payload 3).toNat / 16 % 8) ∧
    (newPeer f).previous = none ∧ (newPeer f).stable = 0 ∧ (newPeer f).state = .heard ∧
    (newPeer f).lossExpiry = f.stamp + 28000) ∧
  (∀ (p : Peer) (f : RxFrame),
    (p.state = .lost → updatePeer p f = newPeer f) ∧
    (∀ d, d = sdiff (BitVec.ofNat 32 (numAt f.payload 4 4) - f.stamp) p.offset →
      (p.state = .heard ∨ p.state = .drifting → d.natAbs ≤ 2 → p.stable < 3 →
        updatePeer p f = { newPeer f with previous := some p.offset, stable := p.stable + 1, state := p.state }) ∧
      (p.state = .heard ∨ p.state = .drifting → d.natAbs ≤ 2 → p.stable = 3 →
        updatePeer p f = { newPeer f with previous := some p.offset, stable := 4, state := .aligned }) ∧
      (p.state = .heard ∨ p.state = .drifting → 2 < d.natAbs →
        updatePeer p f = { newPeer f with previous := some p.offset, stable := 0, state := p.state }) ∧
      (p.state = .aligned → d.natAbs ≤ 2 →
        updatePeer p f = { newPeer f with previous := some p.offset, stable := 4, state := .aligned }) ∧
      (p.state = .aligned → 2 < d.natAbs →
        updatePeer p f = { newPeer f with previous := some p.offset, stable := 0, state := .drifting }))) ∧
  (∀ (s : State) (before behind : List Peer) (p : Peer), s.peers = before ++ p :: behind →
    (∀ x ∈ before, x.station ≠ p.station) → p.state ≠ .lost → reached s.tick p.lossExpiry = true →
    exec (.lossExpiry p.station) s =
      .next (s.withPeers (before ++ { p with state := .lost, stable := 0 } :: behind))) ∧
  (∀ (s : State) (n : Byte), (∀ p ∈ s.peers, p.station = n → p.state = .lost ∨ reached s.tick p.lossExpiry = false) →
    exec (.lossExpiry n) s = .next s) ∧
  (∀ (p : Peer) (lane : Nat), claims lane p = true ↔
    p.lane.toNat = lane ∧ 1 ≤ lane ∧ lane ≤ 8 ∧ (p.state = .heard ∨ p.state = .aligned ∨ p.state = .drifting)) ∧
  (∀ (s : State) (p : Peer), isFresh s p = true ↔
    p.group = s.setup.group ∧ (p.state = .heard ∨ p.state = .aligned) ∧ sdiff s.tick p.last ≤ 24000 ∧
    (p.source = .probe ∨ p.source = .altProbe) ∧ -400 ≤ p.temp ∧ p.temp ≤ 800) ∧
  ∀ (s : State) (p : Peer) (lane : Nat), p.state = .lost →
    claims lane p = false ∧ isFresh s p = false ∧ cederNeighbour s ≠ some p ∧ ownerNeighbour s ≠ some p

/-! ### The link controller -/

/-- R135 to R137, R139: a start bit ends the round and begins a frame with its stamp; a broken frame, or one whose payload
length is above 80, is counted; a complete one is tested for its CRC, its destination and its kind, and takes a place of the
receive queue if one is free. A station that does not work, or sends itself, reads nothing of this; its own completed frame
is dropped without a count, and one it lost to another is read on. The oldest frame of the queue is handed, when the counter
becomes even, to the command that consumes its kind. The model's own choices in it: a command whose event cannot occur
changes nothing, such as a delivery without its frame or an ending with no frame being read (assumption 3), what happens on
the line comes as commands (assumption 5), and a delivery takes the oldest frame when it is due and of its kind (assumption
6). -/
def Obligations.FramesAreReadAndJudged : Prop :=
  (∀ s : State, working s = true → transmitting s = false →
    (s.link.rxPath = .idle →
      exec .startBitSeen s = .next (s.withLink { s.link with round := none, rxPath := .reading s.tick })) ∧
    (s.link.rxPath = .waitQuiet → exec .startBitSeen s = .next (s.withLink { s.link with round := none }))) ∧
  (∀ (s : State) (kind source dest : Byte) (payload : List Byte) (crc : BitVec 16) (cause : BreakCause),
    (working s = false ∨ transmitting s = true →
      exec .startBitSeen s = .next s ∧ exec (.frameBroken cause) s = .next s ∧
      exec (.frameComplete kind source dest payload crc) s = .next s) ∧
    ((∀ stamp, s.link.rxPath ≠ .reading stamp) →
      exec (.frameBroken cause) s = .next s ∧ exec (.frameComplete kind source dest payload crc) s = .next s)) ∧
  (∀ (s : State) (stamp : Tick) (kind source dest : Byte) (payload : List Byte) (crc : BitVec 16), working s = true →
    transmitting s = false → s.link.rxPath = .reading stamp → 80 < payload.length →
    exec (.frameComplete kind source dest payload crc) s =
      .next ((s.withLink { s.link with rxPath := .waitQuiet }).withCounters (s.counters.bump .crcFailures))) ∧
  (∀ (s t : State) (f : TxFrame), sendingFrame s = some f →
    (exec .transmissionComplete s = .next t → t.link.rxPath = .idle ∧ t.counters.crcFailures = s.counters.crcFailures ∧
      t.link.rxQueue = s.link.rxQueue) ∧
    (exec .collision s = .next t → t.link.rxPath = s.link.rxPath ∧ t.link.rxQueue = s.link.rxQueue)) ∧
  (∀ s : State, working s = true →
    ∃ t, exec .strobe s = .next t ∧ t.link.rxQueue = s.link.rxQueue ∧
      (t.link.due = true ↔ (s.tick + 1).toNat % 2 = 0 ∧ s.link.rxQueue ≠ [])) ∧
  (∀ (s : State) (kind : Byte),
    (∀ f rest, s.link.rxQueue = f :: rest → working s = true → s.link.due = true → f.kind = kind →
      deliver kind s = some (f, taken rest s)) ∧
    (s.link.rxQueue = [] ∨ working s = false ∨ s.link.due = false ∨ (∀ f ∈ s.link.rxQueue.head?, f.kind ≠ kind) →
      deliver kind s = none)) ∧
  (∀ (s : State) (c : Instr) (kind : Byte), deliver kind s = none →
    (c, kind) ∈ ([(.beaconReceived, 0x20), (.halfAxleReceived, 0x10), (.mergeTakeReceived, 0x02), (.mergeCedeReceived, 0x03),
      (.mergeRefuseReceived, 0x04), (.hold, 0x30), (.resume, 0x31), (.tempRequest, 0x32), (.tableRead, 0x33),
      (.tableWrite, 0x34), (.tableCut, 0x35), (.lock, 0x36), (.erase, 0x37), (.rezero, 0x38), (.screen, 0x39),
      (.restart, 0x3A)] : List (Instr × Byte)) →
    exec c s = .next s) ∧
  (∀ (s : State) (stamp : Tick) (cause : BreakCause), working s = true → transmitting s = false →
    s.link.rxPath = .reading stamp →
    exec (.frameBroken cause) s =
      .next ((s.withLink { s.link with rxPath := if cause = .quietGap then .idle else .waitQuiet }).withCounters
        (s.counters.bump .crcFailures))) ∧
  ∀ (s : State) (stamp : Tick) (kind source dest : Byte) (payload : List Byte) (crc : BitVec 16), working s = true →
    transmitting s = false → s.link.rxPath = .reading stamp → payload.length ≤ 80 →
    (crc16 (coveredBytes kind source dest payload) ≠ crc →
      exec (.frameComplete kind source dest payload crc) s =
        .next ((s.withLink { s.link with rxPath := .idle }).withCounters (s.counters.bump .crcFailures))) ∧
    (crc16 (coveredBytes kind source dest payload) = crc →
      ((dest ≠ ownNumber s ∧ dest ≠ 255) ∨
        kind ∉ ([0x20, 0x10, 0x02, 0x03, 0x04, 0x30, 0x31, 0x32, 0x33, 0x34, 0x35, 0x36, 0x37, 0x38, 0x39, 0x3A] : List Byte)) →
      exec (.frameComplete kind source dest payload crc) s = .next (s.withLink { s.link with rxPath := .idle })) ∧
    (crc16 (coveredBytes kind source dest payload) = crc → (dest = ownNumber s ∨ dest = 255) →
      kind ∈ ([0x20, 0x10, 0x02, 0x03, 0x04, 0x30, 0x31, 0x32, 0x33, 0x34, 0x35, 0x36, 0x37, 0x38, 0x39, 0x3A] : List Byte) →
      (s.link.rxQueue.length < 8 →
        exec (.frameComplete kind source dest payload crc) s =
          .next (s.withLink { s.link with
            rxPath := .idle, rxQueue := s.link.rxQueue ++ [⟨kind, source, dest, payload, stamp⟩] })) ∧
      (s.link.rxQueue.length = 8 →
        ∃ t, exec (.frameComplete kind source dest payload crc) s = .next t ∧ t.link.rxQueue = s.link.rxQueue ∧
          t.link.rxPath = .idle ∧ t.counters = s.counters.bump .rxLoss ∧ t.raised = { s.raised with queueLoss := true } ∧
          t.veh = s.veh ∧ t.former = s.former ∧ t.cal = s.cal ∧ t.peers = s.peers ∧ t.tick = s.tick))

/-- R139, R141, R147, R151: the slots of a round run from 0 to 319; at a slot's beginning the first frame in transmit order,
VEHICLE frames passed over while the station is held, starts exactly when its start slot is the one that begins, a beacon with
the tick of this start; the yield flag clears at slot 32. -/
def Obligations.SlotsStartTheCandidate : Prop :=
  (∀ l : Link, (l.round = none → nextRound l = ⟨0, l.yieldFlag⟩) ∧
    (∀ r, l.round = some r → r.slot < 319 → nextRound l = ⟨r.slot + 1, r.yielding⟩) ∧
    ∀ r, l.round = some r → r.slot = 319 → nextRound l = ⟨0, l.yieldFlag⟩) ∧
  ∀ (s : State) (r : Round), working s = true → transmitting s = false →
    (s.link.rxPath = .idle ∨ s.link.rxPath = .waitQuiet) → nextRound s.link = r →
    (∀ f, s.link.immediate = some f → f.kind = .overload →
      (startSlot s.straps.station r.yielding f = r.slot →
        exec .slotBegin s = .next (s.withLink { s.link with
          round := none, rxPath := .reading s.tick, yieldFlag := s.link.yieldFlag && decide (r.slot ≠ 32)
          immediate := some { f with sending := true } })) ∧
      (startSlot s.straps.station r.yielding f ≠ r.slot →
        exec .slotBegin s = .next (s.withLink { s.link with
          round := some r, rxPath := .idle, yieldFlag := s.link.yieldFlag && decide (r.slot ≠ 32) }))) ∧
    (s.link.immediate = none → (∀ f ∈ s.link.queue, f.kind = .vehicle ∧ s.link.hold.isSome = true) →
      exec .slotBegin s = .next (s.withLink { s.link with
        round := some r, rxPath := .idle, yieldFlag := s.link.yieldFlag && decide (r.slot ≠ 32) })) ∧
    ∀ (f : TxFrame) (before behind : List TxFrame), s.link.immediate = none → s.link.queue = before ++ f :: behind →
      (f.kind = .vehicle → s.link.hold = none) →
      (∀ x ∈ before, txRank f.kind < txRank x.kind ∨ (x.kind = .vehicle ∧ s.link.hold.isSome = true)) →
      (∀ x ∈ behind, txRank f.kind ≤ txRank x.kind ∨ (x.kind = .vehicle ∧ s.link.hold.isSome = true)) →
      (startSlot s.straps.station r.yielding f = r.slot →
        exec .slotBegin s = .next (s.withLink { s.link with
          round := none, rxPath := .reading s.tick, yieldFlag := s.link.yieldFlag && decide (r.slot ≠ 32)
          queue := before ++
            { f with
              sending := true
              payload := if f.kind = .beacon then f.payload.take 4 ++ bytesOf 4 s.tick.toNat ++ f.payload.drop 8
                else f.payload } :: behind })) ∧
      (startSlot s.straps.station r.yielding f ≠ r.slot →
        exec .slotBegin s = .next (s.withLink { s.link with
          round := some r, rxPath := .idle, yieldFlag := s.link.yieldFlag && decide (r.slot ≠ 32) }))

/-- R140, R144: the start slot is the sum of base, yield and backoff, at most 319, and never shared by two numbers; the backoff
generator never reaches 0, is seeded in START, advances once for each draw, which a collision makes below the eighth, and at no
other event. That a reset keeps the register until START seeds it is the model's choice (assumption 10). -/
def Obligations.StartSlotsAndBackoffGenerator : Prop :=
  (∀ (n : BitVec 4) (y : Bool) (f : TxFrame),
    (frameClass f.kind = 0 → startSlot n y f = n.toNat + 16 * f.backoff) ∧
    (frameClass f.kind = 1 → startSlot n y f = 16 + n.toNat + (if y then 16 else 0) + 16 * f.backoff) ∧
    (frameClass f.kind = 2 → startSlot n y f = 48 + n.toNat + (if y then 16 else 0) + 16 * f.backoff) ∧
    frameClass f.kind ≤ 2 ∧ (f.backoff ≤ 15 → startSlot n y f ≤ 319)) ∧
  (∀ (n m : BitVec 4) (y z : Bool) (f g : TxFrame), n ≠ m → startSlot n y f ≠ startSlot m z g) ∧
  (∀ (n m : BitVec 4) (f g : TxFrame), f.backoff = 0 → g.backoff = 0 → frameClass f.kind < frameClass g.kind →
    startSlot n false f < startSlot m false g) ∧
  (∀ r : BitVec 16,
    (advanceLfsr r).toNat = r.toNat / 2 +
      (if (r.getLsbD 0 ^^ r.getLsbD 2 ^^ r.getLsbD 3 ^^ r.getLsbD 5) then 32768 else 0) ∧
    (r ≠ 0 → advanceLfsr r ≠ 0)) ∧
  (∀ n : BitVec 4, (backoffSeed n).toNat = n.toNat * 4099 + 1) ∧
  (∀ (c : Instr) (s t : State), exec c s = .next t →
    (c = .collision →
      (∀ f, sendingFrame s = some f → f.collisions < 7 → t.link.lfsr = advanceLfsr s.link.lfsr) ∧
      ((∀ f, sendingFrame s = some f → 7 ≤ f.collisions) → t.link.lfsr = s.link.lfsr)) ∧
    (∀ x, c = .startDone x → s.ctl.station = .start → t.link.lfsr = backoffSeed x.station) ∧
    (c ≠ .collision → (∀ x, c = .startDone x → s.ctl.station ≠ .start) → t.link.lfsr = s.link.lfsr))

/-- R143, R145 to R147, R99: a collision counts, and the frame keeps its place with one draw from the generator; at the
eighth it is abandoned, a VEHICLE frame's entry goes back to READY, and the freed place is offered to the READY entries; a
beacon that collides while another waits is discarded (R143 says so of an earlier one; assumption 18). -/
def Obligations.CollisionsDrawOrAbandon : Prop :=
  ∀ (s : State) (f : TxFrame) (before behind : List TxFrame), f.sending = true →
    (s.link.immediate = some f → f.collisions < 7 → f.kind = .overload →
      exec .collision s = .next ((s.withLink { s.link with
        lfsr := advanceLfsr s.link.lfsr
        immediate := some { f with
          sending := false, collisions := f.collisions + 1
          backoff := (advanceLfsr s.link.lfsr).toNat % 2 ^ min (f.collisions + 1) 4 } }).withCounters
        (s.counters.bump .collisions))) ∧
    (s.link.immediate = some f → f.collisions = 7 → f.kind = .overload → f.vehicle = none →
      (∀ x ∈ s.link.queue, x.kind ≠ .overload) →
      ∃ t, exec .collision s = .next t ∧ t.link.immediate = none ∧ t.link.lfsr = s.link.lfsr ∧
        t.link.queue.map TxFrame.payload = s.link.queue.map TxFrame.payload ∧ t.raised = { s.raised with linkFault := true } ∧
        t.counters = (s.counters.bump .collisions).bump .abandoned ∧ t.veh = s.veh ∧ SameMeasuring s t) ∧
    (∀ g, s.link.immediate = some f → f.collisions = 7 → f.kind = .overload → f.vehicle = none →
      s.link.queue = before ++ g :: behind → g.kind = .overload → (∀ x ∈ before, x.kind ≠ .overload) → OneClosingOrder s →
      ∃ u t, exec .collision s = .next t ∧ ReadyOffered u t ∧ u.link.immediate.map TxFrame.payload = some g.payload ∧
        u.link.queue.map TxFrame.payload = (before ++ behind).map TxFrame.payload ∧ u.link.lfsr = s.link.lfsr ∧
        u.raised = { s.raised with linkFault := true } ∧ u.counters = (s.counters.bump .collisions).bump .abandoned ∧
        u.veh = s.veh ∧ SameMeasuring s u) ∧
    ((s.link.immediate.map TxFrame.sending).getD false = false → s.link.queue = before ++ f :: behind →
      (∀ x ∈ before, x.sending = false) →
      (f.collisions < 7 → (f.kind = .beacon → ∀ x ∈ before ++ behind, x.kind = .beacon → x.sending = true) →
        exec .collision s = .next ((s.withLink { s.link with
          lfsr := advanceLfsr s.link.lfsr
          queue := before ++ { f with
            sending := false, collisions := f.collisions + 1
            backoff := (advanceLfsr s.link.lfsr).toNat % 2 ^ min (f.collisions + 1) 4 } :: behind }).withCounters
          (s.counters.bump .collisions))) ∧
      (f.collisions < 7 → f.kind = .beacon → (∃ x ∈ before ++ behind, x.kind = .beacon ∧ x.sending = false) →
        OneClosingOrder s →
        ∃ t, exec .collision s = .next t ∧ ReadyOffered ((s.withLink { s.link with
          lfsr := advanceLfsr s.link.lfsr, queue := before ++ behind }).withCounters (s.counters.bump .collisions)) t) ∧
      (f.collisions = 7 → f.vehicle = none → OneClosingOrder s →
        ∃ u t, exec .collision s = .next t ∧ ReadyOffered u t ∧ u.link.lfsr = s.link.lfsr ∧
          u.link.immediate = s.link.immediate ∧ u.link.queue.map TxFrame.payload = (before ++ behind).map TxFrame.payload ∧
          u.raised = { s.raised with linkFault := true } ∧
          u.counters = (s.counters.bump .collisions).bump .abandoned ∧ u.veh = s.veh ∧ SameMeasuring s u) ∧
      ∀ n, f.collisions = 7 → f.vehicle = some n → NumbersDistinct s →
        ∃ u t, exec .collision s = .next t ∧ ReadyOffered u t ∧ u.link.lfsr = s.link.lfsr ∧
          u.link.immediate = s.link.immediate ∧ u.link.queue.map TxFrame.payload = (before ++ behind).map TxFrame.payload ∧
          u.veh = { s.veh with
            entries := s.veh.entries.map fun v => if v.number = n then { v with state := .ready } else v } ∧
          u.raised = { s.raised with linkFault := true } ∧
          u.counters = (s.counters.bump .collisions).bump .abandoned ∧ SameMeasuring s u)

/-- R141, R146, R147, R185, R99: a frame whose transmission completes leaves its place; a VEHICLE frame frees and counts its
entry, a beacon clears the notices it carried that clear on report and were not raised since, the emptied immediate slot
takes the oldest queued OVERLOAD frame, the freed queue place is offered to the READY entries, and class 1 or 2 sets the
yield flag. The bytes kept as last sent are the model's own field (assumption 21), and what a waiting beacon will clear is
its bookkeeping for R185 (assumption 26). -/
def Obligations.CompletionsTellTheirBlock : Prop :=
  (∀ (s : State) (f : TxFrame) (before behind : List TxFrame), f.sending = true →
    (∀ g, s.link.immediate = some g → g.sending = false) →
    s.link.queue = before ++ f :: behind → (∀ x ∈ before, x.sending = false) → OneClosingOrder s →
    ∃ u t, exec .transmissionComplete s = .next t ∧ ReadyOffered u t ∧
      u.link = { s.link with
        rxPath := .idle, queue := before ++ behind
        yieldFlag := s.link.yieldFlag || decide (frameClass f.kind = 1 ∨ frameClass f.kind = 2)
        lastSent := wireBytes (kindCode f.kind) (ownNumber s) f.dest f.payload } ∧
      (∀ n, isPending u n = (isPending s n && !(f.clears.contains n && clearsOnReport n))) ∧
      (f.vehicle = none → u.veh = s.veh ∧ u.counters = s.counters) ∧
      (∀ n, f.vehicle = some n →
        u.veh = { s.veh with
          entries := s.veh.entries.filter (fun v => decide (v.number ≠ n))
          closingOrder := s.veh.closingOrder.filter (fun m => decide (m ≠ n)) } ∧
        u.counters = s.counters.bump .vehiclesSent) ∧
      u.former = s.former ∧ u.ctl = s.ctl ∧ SameMeasuring s u) ∧
  (∀ (s : State) (f : TxFrame), f.sending = true → s.link.immediate = some f → f.kind = .overload → f.clears = [] →
    f.vehicle = none →
    ((∀ x ∈ s.link.queue, x.kind ≠ .overload) →
      exec .transmissionComplete s = .next (s.withLink { s.link with
        rxPath := .idle, immediate := none, lastSent := wireBytes 0x01 (ownNumber s) f.dest f.payload })) ∧
    ∀ (g : TxFrame) (before behind : List TxFrame), s.link.queue = before ++ g :: behind → g.kind = .overload →
      (∀ x ∈ before, x.kind ≠ .overload) → OneClosingOrder s →
      ∃ t, exec .transmissionComplete s = .next t ∧ ReadyOffered (s.withLink { s.link with
        rxPath := .idle, immediate := some g, queue := before ++ behind
        lastSent := wireBytes 0x01 (ownNumber s) f.dest f.payload }) t) ∧
  (∀ s : State, (beaconFrame s).clears = (carriedNotices s).filter clearsOnReport) ∧
  ∀ (s : State) (n : Notice), clearsOnReport n = true → isPending (raise n s) n = true ∧
    (∀ f ∈ (raise n s).link.queue, n ∉ f.clears) ∧ ∀ m, m ≠ n → isPending (raise n s) m = isPending s m

/-- R148 to R150, R120, R99: a VEHICLE frame needs two free places; a class-0 frame or a HALF_AXLE takes a free place, then
that of the oldest waiting class-2 frame, then, class 0 only, that of the newest waiting VEHICLE frame; every other frame
takes a free place or is dropped, but a beacon replaces one that waits. The oldest is the one whose place comes first; that a
beacon which replaced another counts as that old is the model's choice (assumption 36). -/
def Obligations.AdmissionFollowsTheFreePlaces : Prop :=
  (∀ (f : TxFrame) (s : State), s.link.queue.length < 16 →
    offerPlain f s = (s.withLink { s.link with queue := s.link.queue ++ [f] }, true) ∧
    offerUrgent f s = (s.withLink { s.link with queue := s.link.queue ++ [f] }, true)) ∧
  (∀ (f : TxFrame) (s : State), s.link.queue.length = 16 →
    (offerPlain f s).2 = false ∧ (offerPlain f s).1.counters = s.counters.bump .txDrop ∧
    (offerPlain f s).1.raised = { s.raised with queueLoss := true } ∧ (offerPlain f s).1.veh = s.veh ∧
    (offerPlain f s).1.link.queue.map TxFrame.payload = s.link.queue.map TxFrame.payload) ∧
  (∀ (f g : TxFrame) (before behind : List TxFrame) (s : State), s.link.queue = before ++ g :: behind →
    s.link.queue.length = 16 → frameClass g.kind = 2 → g.sending = false →
    (∀ x ∈ before, frameClass x.kind = 2 → x.sending = true) →
    (offerUrgent f s).2 = true ∧ (offerUrgent f s).1.counters = s.counters.bump .txDrop ∧
    (offerUrgent f s).1.raised = { s.raised with queueLoss := true } ∧ (offerUrgent f s).1.veh = s.veh ∧
    (offerUrgent f s).1.link.queue.map TxFrame.payload = (before ++ behind ++ [f]).map TxFrame.payload) ∧
  (∀ (f g : TxFrame) (before behind : List TxFrame) (n : BitVec 16) (s : State), s.link.queue = before ++ g :: behind →
    s.link.queue.length = 16 → (∀ x ∈ s.link.queue, frameClass x.kind = 2 → x.sending = true) → frameClass f.kind = 0 →
    g.kind = .vehicle → g.sending = false → g.vehicle = some n → (∀ x ∈ behind, x.kind = .vehicle → x.sending = true) →
    offerUrgent f s = ((s.withLink { s.link with queue := before ++ behind ++ [f] }).withVeh { s.veh with
      entries := s.veh.entries.map fun v => if v.number = n then { v with state := .ready } else v }, true)) ∧
  (∀ (f : TxFrame) (s : State), s.link.queue.length = 16 →
    (∀ x ∈ s.link.queue, frameClass x.kind = 2 → x.sending = true) →
    (frameClass f.kind ≠ 0 → offerUrgent f s = (s, false)) ∧
    (frameClass f.kind = 0 → (∀ x ∈ s.link.queue, x.kind = .vehicle → x.sending = true) →
      (offerUrgent f s).2 = false ∧ (offerUrgent f s).1.counters = s.counters.bump .txDrop ∧
      (offerUrgent f s).1.raised = { s.raised with queueLoss := true })) ∧
  (∀ (f g : TxFrame) (before behind : List TxFrame) (s : State), s.link.queue = before ++ g :: behind →
    g.kind = .beacon → g.sending = false → (∀ x ∈ before, x.kind = .beacon → x.sending = true) →
    offerBeacon f s = s.withLink { s.link with queue := before ++ f :: behind }) ∧
  (∀ s : State, OneClosingOrder s → ReadyOffered s (offerReady s)) ∧
  (∀ s : State, (∀ v ∈ s.veh.entries, v.state ≠ .ready) → offerReady s = s) ∧
  ∀ (s : State) (v : Vehicle) (order : List (BitVec 16)), s.veh.entries = [v] → s.veh.closingOrder = v.number :: order →
    v.state = .ready →
    (15 ≤ s.link.queue.length → offerReady s = s) ∧
    (s.link.queue.length ≤ 14 → (offerReady s).veh.entries = [{ v with state := .queued }] ∧
      (offerReady s).link.queue = s.link.queue ++ [vehicleFrame v])

/-! ### The commands of the link and the calibration memory -/

/-- R58, R110, R151, R179: HOLD, RESUME, TEMP_REQUEST, SCREEN and RESTART act, addressed or broadcast, and an addressed one is
answered DONE; a HOLD whose reply finds no place still holds; the hold ends at its timer's expiry. That the report of a
TEMP_REQUEST is offered before its REPLY is the model's reading (assumption 17). -/
def Obligations.LinkCommandsActAndAnswer : Prop :=
  (∀ (s : State) (f : RxFrame) (rest : List RxFrame), AtFront 0x30 f rest s → f.payload = [] → RoomForReply s →
    exec .hold s = .next (s.withLink { takenLink rest s with
      hold := some (s.tick + 16000), queue := answered f .done 255 s.link.queue })) ∧
  (∀ (s : State) (f : RxFrame) (rest : List RxFrame), AtFront 0x30 f rest s → f.payload = [] → f.dest ≠ 255 →
    s.link.queue.length = 16 →
    ∃ t, exec .hold s = .next t ∧ t.link.hold = some (s.tick + 16000) ∧ t.link.rxQueue = rest ∧
      t.link.queue.map TxFrame.payload = s.link.queue.map TxFrame.payload ∧ t.counters = s.counters.bump .txDrop ∧
      t.raised = { s.raised with queueLoss := true } ∧ t.veh = s.veh ∧ t.cal = s.cal) ∧
  (∀ (s : State) (f : RxFrame) (rest : List RxFrame), AtFront 0x31 f rest s → f.payload = [] → RoomForReply s →
    exec .resume s = .next (s.withLink { takenLink rest s with
      hold := none, queue := answered f .done 255 s.link.queue })) ∧
  (∀ (s : State) (e : Tick), s.link.hold = some e → reached s.tick e = true →
    exec .holdTimerExpiry s = .next (s.withLink { s.link with hold := none })) ∧
  (∀ (s : State) (f : RxFrame) (rest : List RxFrame), AtFront 0x32 f rest s → f.payload = [] →
    s.link.queue.length ≤ 14 →
    exec .tempRequest s = .next ((s.withTemp { s.temp with
        least := s.temp.value, greatest := s.temp.value, goodReadings := 0 }).withLink
      { takenLink rest s with queue := answered f .done 255 (s.link.queue ++ [temperatureFrame s]) })) ∧
  (∀ (s : State) (f : RxFrame) (rest : List RxFrame) (v : Byte), AtFront 0x39 f rest s → f.payload = [v] → v.toNat ≤ 1 →
    RoomForReply s →
    exec .screen s = .next ((s.withScreenOn (decide (v = 1))).withLink
      { takenLink rest s with queue := answered f .done 255 s.link.queue })) ∧
  ∀ (s : State) (f : RxFrame) (rest : List RxFrame), AtFront 0x3A f rest s → f.payload = [] → RoomForReply s →
    exec .restart s = .next ((s.withCtl { s.ctl with restartPending := true }).withLink
      { takenLink rest s with
        queue := if f.dest = 255 then s.link.queue
          else s.link.queue ++ [{ mkFrame .reply f.source [0x3A, 0, 255] with restartReply := true }] })

/-- R177: a command whose payload is too short or too long, a SCREEN value above 1, and a REZERO that names no channel or sets
bits 4 to 7, is refused FIELD and changes nothing else; a broadcast one gets no reply. A well-formed table command with
destination broadcast is ignored (R161). The table byte of a refusal is the model's reading (assumption 16). -/
def Obligations.MalformedCommandsAreRefusedField : Prop :=
  (∀ (c : Instr) (kind : Byte) (s : State) (f : RxFrame) (rest : List RxFrame),
    (c, kind) ∈ ([(.hold, 0x30), (.resume, 0x31), (.tempRequest, 0x32), (.lock, 0x36), (.erase, 0x37), (.restart, 0x3A)] :
      List (Instr × Byte)) →
    AtFront kind f rest s → RoomForReply s → f.payload ≠ [] →
    exec c s = .next (s.withLink { takenLink rest s with queue := answered f .field 255 s.link.queue })) ∧
  (∀ (s : State) (f : RxFrame) (rest : List RxFrame), AtFront 0x39 f rest s → RoomForReply s →
    (∀ v, f.payload = [v] → 1 < v.toNat) →
    exec .screen s = .next (s.withLink { takenLink rest s with queue := answered f .field 255 s.link.queue })) ∧
  (∀ (s : State) (f : RxFrame) (rest : List RxFrame), AtFront 0x38 f rest s → RoomForReply s →
    (∀ b, f.payload = [b] → b = 0 ∨ 15 < b.toNat) →
    exec .rezero s = .next (s.withLink { takenLink rest s with queue := answered f .field 255 s.link.queue })) ∧
  (∀ (c : Instr) (kind : Byte) (s : State) (f : RxFrame) (rest : List RxFrame),
    (c = .tableRead ∧ kind = 0x33 ∧ f.payload.length ≠ 3) ∨ (c = .tableWrite ∧ kind = 0x34 ∧ f.payload.length < 2) ∨
      (c = .tableCut ∧ kind = 0x35 ∧ f.payload.length ≠ 2) →
    AtFront kind f rest s → RoomForReply s →
    exec c s = .next (s.withLink { takenLink rest s with
      queue := answered f .field (f.payload.head?.getD 255) s.link.queue })) ∧
  ∀ (c : Instr) (kind : Byte) (s : State) (f : RxFrame) (rest : List RxFrame),
    (c = .tableRead ∧ kind = 0x33 ∧ f.payload.length = 3) ∨ (c = .tableWrite ∧ kind = 0x34 ∧ 2 ≤ f.payload.length) ∨
      (c = .tableCut ∧ kind = 0x35 ∧ f.payload.length = 2) ∨ (c = .lock ∧ kind = 0x36 ∧ f.payload = []) ∨
      (c = .erase ∧ kind = 0x37 ∧ f.payload = []) →
    AtFront kind f rest s → f.dest = 255 → exec c s = .next (taken rest s)

/-- R164, R150: a TABLE_READ is refused by the first test it fails, BUSY while ERASING or WRITING the table named; one that
passes is answered with one TABLE_DATA frame for each entry from the start, the last marked end; at the first frame without a
place that one and every later one is dropped and counted. That TABLE_DATA is addressed to the source of the TABLE_READ is
the model's reading (assumption 15). -/
def Obligations.TableReadsAreServedOrRefused : Prop :=
  (∀ (s : State) (f : RxFrame) (rest : List RxFrame) (t start count : Byte), AtFront 0x33 f rest s → f.dest ≠ 255 →
    f.payload = [t, start, count] →
    (∀ code, RoomForReply s →
      (code = .range ∧ 13 < t.toNat) ∨
      (code = .field ∧ t.toNat ≤ 13 ∧ (count.toNat < 1 ∨ 12 < count.toNat)) ∨
      (code = .busy ∧ t.toNat ≤ 13 ∧ 1 ≤ count.toNat ∧ count.toNat ≤ 12 ∧
        ((∃ source begun, s.cal.activity = .erasing source begun) ∨
          ∃ change source begun, s.cal.activity = .writing t.toNat change source begun)) ∨
      (code = .absent ∧ t.toNat ≤ 12 ∧ 1 ≤ count.toNat ∧ count.toNat ≤ 12 ∧ readBusy s t.toNat = false ∧
        tablePresent s.cal t.toNat = false) ∨
      (code = .range ∧ t.toNat ≤ 12 ∧ 1 ≤ count.toNat ∧ count.toNat ≤ 12 ∧ readBusy s t.toNat = false ∧
        tablePresent s.cal t.toNat = true ∧ (storedTable s.cal t.toNat).entries.length ≤ start.toNat) ∨
      (code = .range ∧ t.toNat = 13 ∧ 1 ≤ count.toNat ∧ count.toNat ≤ 12 ∧ readBusy s t.toNat = false ∧
        18 ≤ start.toNat) →
      exec .tableRead s = .next (s.withLink { takenLink rest s with
        queue := answered f code t s.link.queue })) ∧
    (∀ l, t.toNat ≤ 12 → 1 ≤ count.toNat → count.toNat ≤ 12 → readBusy s t.toNat = false → tablePresent s.cal t.toNat = true →
      l = ((storedTable s.cal t.toNat).entries.drop start.toNat).take count.toNat → l ≠ [] →
      s.link.queue.length + l.length ≤ 16 →
      exec .tableRead s = .next (s.withLink { takenLink rest s with
        queue := s.link.queue ++ (l.zipIdx start.toNat).map fun e => mkFrame .tableData f.source
          (BitVec.ofNat 8 t.toNat :: BitVec.ofNat 8 e.2 ::
            (if e.2 + 1 = start.toNat + l.length then 1 else 0) :: e.1) })) ∧
    (∀ n, t.toNat = 13 → start.toNat + count.toNat ≤ 18 → 1 ≤ count.toNat → count.toNat ≤ 12 → readBusy s t.toNat = false →
      s.counters.values[start.toNat]? = some n → s.link.queue.length + count.toNat ≤ 16 →
      ∃ u, exec .tableRead s = .next u ∧ u.counters = s.counters ∧
        u.link.queue.length = s.link.queue.length + count.toNat ∧
        (u.link.queue[s.link.queue.length]?).map TxFrame.payload =
          some [13, start, if count.toNat = 1 then 1 else 0, BitVec.ofNat 8 (n / 256), BitVec.ofNat 8 n])) ∧
  (∀ (s : State) (f : RxFrame) (rest : List RxFrame) (t start count : Byte) (l : List (List Byte)), AtFront 0x33 f rest s →
    f.dest ≠ 255 → f.payload = [t, start, count] → t.toNat ≤ 13 → 1 ≤ count.toNat → count.toNat ≤ 12 →
    readBusy s t.toNat = false →
    (t.toNat ≤ 12 → tablePresent s.cal t.toNat = true ∧
      l = ((storedTable s.cal t.toNat).entries.drop start.toNat).take count.toNat) →
    (t.toNat = 13 → l = ((s.counters.values.map fun n => [BitVec.ofNat 8 (n / 256), BitVec.ofNat 8 n]).drop start.toNat).take
      count.toNat) → l ≠ [] →
    exec .tableRead s = .next (offerAll ((l.zipIdx start.toNat).map fun e => mkFrame .tableData f.source
      (BitVec.ofNat 8 t.toNat :: BitVec.ofNat 8 e.2 :: (if e.2 + 1 = start.toNat + l.length then 1 else 0) :: e.1))
      (taken rest s))) ∧
  ∀ (l : List TxFrame) (s : State) (free : Nat), free = 16 - s.link.queue.length →
    (offerAll l s).link.queue.map TxFrame.payload = (s.link.queue ++ l.take free).map TxFrame.payload ∧
    (offerAll l s).link.queue.map TxFrame.kind = (s.link.queue ++ l.take free).map TxFrame.kind ∧
    (offerAll l s).link.queue.map TxFrame.dest = (s.link.queue ++ l.take free).map TxFrame.dest ∧
    (offerAll l s).counters = (bumpTimes .txDrop (l.length - free) s).counters ∧
    (l.length ≤ free → (offerAll l s).raised = s.raised) ∧
    (free < l.length → (offerAll l s).raised = { s.raised with queueLoss := true }) ∧ (offerAll l s).veh = s.veh

/-- R104, R153, R155 to R157, R176: the field test of an entry for each table and the order test of BAND and TEMP, in numbers.
R161 to R163, R154, R160: an addressed TABLE_WRITE or TABLE_CUT is refused by the first test it fails, with nothing changed
in the calibration memory, or begins: the open mark is set and the memory is WRITING. -/
def Obligations.TableChangesAreTestedInOrder : Prop :=
  (∀ e : List Byte,
    (entryOk 0 e = true ↔ e.length = 20 ∧ 1000 ≤ numAt e 0 2 ∧ numAt e 0 2 ≤ 6000 ∧
      [fieldOf (byteAt e 2) 0 2, fieldOf (byteAt e 2) 2 2, fieldOf (byteAt e 2) 4 2, fieldOf (byteAt e 2) 6 2].Nodup ∧
      fieldOf (byteAt e 3) 7 1 = 0 ∧ fieldOf (byteAt e 3) 5 2 ≠ 2 ∧
      (fieldOf (byteAt e 3) 5 2 = 0 → fieldOf (byteAt e 3) 3 1 = 1) ∧
      (fieldOf (byteAt e 3) 5 2 = 1 → fieldOf (byteAt e 3) 4 1 = 1) ∧
      (fieldOf (byteAt e 3) 5 2 = 3 → fieldOf (byteAt e 3) 3 1 = 0 ∧ fieldOf (byteAt e 3) 4 1 = 0) ∧
      16 ≤ numAt e 4 2 ∧ numAt e 4 2 ≤ 8192 ∧ 8 ≤ numAt e 6 2 ∧ numAt e 6 2 < numAt e 4 2 ∧
      1 ≤ numAt e 8 1 ∧ numAt e 8 1 ≤ 15 ∧ 16 ≤ numAt e 9 2 ∧ numAt e 9 2 ≤ 8000 ∧
      2000 ≤ numAt e 11 2 ∧ numAt e 11 2 ≤ 20000 ∧ 50 ≤ numAt e 13 2 ∧ numAt e 13 2 ≤ 1000 ∧ numAt e 15 1 ≤ 3 ∧
      -400 ≤ intAt e 16 ∧ intAt e 16 ≤ 800) ∧
    (entryOk 1 e = true ↔ e.length = 3 ∧ 1 ≤ numAt e 0 3 ∧ numAt e 0 3 ≤ 16777215) ∧
    (entryOk 2 e = true ↔ e.length = 4 ∧ 50 ≤ numAt e 0 2 ∧ numAt e 0 2 ≤ 2500 ∧ 512 ≤ numAt e 2 2 ∧ numAt e 2 2 ≤ 2047) ∧
    (entryOk 3 e = true ↔ e.length = 4 ∧ -400 ≤ intAt e 0 ∧ intAt e 0 ≤ 800 ∧ 512 ≤ numAt e 2 2 ∧ numAt e 2 2 ≤ 2047) ∧
    (entryOk 4 e = true ↔ e.length = 9 ∧ 50 ≤ numAt e 0 2 ∧ numAt e 0 2 ≤ numAt e 2 2 ∧ numAt e 2 2 ≤ 2500 ∧
      -400 ≤ intAt e 4 ∧ intAt e 4 ≤ intAt e 6 ∧ intAt e 6 ≤ 800 ∧ 5 ≤ numAt e 8 1 ∧ numAt e 8 1 ≤ 50) ∧
    (∀ n, 2 ≤ n → n ≤ 9 → (entryOk (n + 3) e = true ↔ e.length = 9 + 2 * (n - 1) ∧ 1 ≤ numAt e 0 1 ∧ numAt e 0 1 ≤ 14 ∧
      numAt e 1 2 ≤ numAt e 3 2 ∧ numAt e 3 2 ≤ 1000 ∧ 1 ≤ numAt e 5 2 ∧ numAt e 5 2 ≤ 1000 ∧
      1 ≤ numAt e 7 2 ∧ numAt e 7 2 ≤ 1000 ∧ ∀ k, k < n - 1 → numAt e (9 + 2 * k) 1 ≤ numAt e (10 + 2 * k) 1))) ∧
  (∀ (entries : List (List Byte)) (index : Nat) (e : List Byte), index ≤ entries.length →
    (orderOk 2 entries index e = true ↔
      (∀ b, 1 ≤ index → entries[index - 1]? = some b → numAt b 0 2 < numAt e 0 2) ∧
      ∀ b, entries[index + 1]? = some b → numAt e 0 2 < numAt b 0 2) ∧
    (orderOk 3 entries index e = true ↔
      (∀ b, 1 ≤ index → entries[index - 1]? = some b → intAt b 0 < intAt e 0) ∧
      ∀ b, entries[index + 1]? = some b → intAt e 0 < intAt b 0) ∧
    ∀ t, t ≠ 2 → t ≠ 3 → orderOk t entries index e = true) ∧
  [0, 1, 2, 3, 4, 5, 6, 7, 8, 9, 10, 11, 12].map tableCap = [1, 4, 8, 8, 1, 12, 12, 12, 12, 12, 12, 12, 12] ∧
  ∀ (s : State) (f : RxFrame) (rest : List RxFrame) (c : Instr) (t : Byte) (change : Change) (fits fieldsOk ordered : Bool),
    s.link.rxQueue = f :: rest → working s = true → s.link.due = true → f.dest ≠ 255 →
    ((∃ index entry, c = .tableWrite ∧ f.kind = 0x34 ∧ f.payload = t :: index :: entry ∧
        change = .entry index.toNat entry ∧
        fits = decide (index.toNat ≤ (tableEntries s.cal t.toNat).length ∧ index.toNat < tableCap t.toNat) ∧
        fieldsOk = entryOk t.toNat entry ∧
        ordered = orderOk t.toNat (tableEntries s.cal t.toNat) index.toNat entry) ∨
      (∃ count, c = .tableCut ∧ f.kind = 0x35 ∧ f.payload = [t, count] ∧ change = .cut count.toNat ∧
        fits = decide (count.toNat ≤ (tableEntries s.cal t.toNat).length) ∧ fieldsOk = true ∧ ordered = true)) →
    (∀ code, RoomForReply s →
      (code = .range ∧ 13 < t.toNat) ∨
      (code = .notAllowed ∧ t.toNat = 13) ∨
      (code = .locked ∧ t.toNat ≤ 12 ∧ s.cal.lock = true) ∨
      (code = .notAllowed ∧ t.toNat ≤ 12 ∧ s.cal.lock = false ∧ s.straps.calEnable = false) ∨
      (code = .busy ∧ t.toNat ≤ 12 ∧ s.cal.lock = false ∧ s.straps.calEnable = true ∧
        (s.cal.activity ≠ .idle ∨ s.ctl.restartPending = true)) ∨
      (t.toNat ≤ 12 ∧ s.cal.lock = false ∧ s.straps.calEnable = true ∧ s.cal.activity = .idle ∧
        s.ctl.restartPending = false ∧
        ((code = .range ∧ fits = false) ∨ (code = .field ∧ fits = true ∧ fieldsOk = false) ∨
          (code = .order ∧ fits = true ∧ fieldsOk = true ∧ ordered = false))) →
      exec c s = .next (s.withLink { takenLink rest s with
        queue := answered f code t s.link.queue })) ∧
    (t.toNat ≤ 12 → s.cal.lock = false → s.straps.calEnable = true → s.cal.activity = .idle →
      s.ctl.restartPending = false → fits = true → fieldsOk = true → ordered = true →
      exec c s = .next ((taken rest s).withCal { s.cal with
        tables := s.cal.tables.set t.toNat { storedTable s.cal t.toNat with openMark := true }
        activity := .writing t.toNat change f.source s.tick }))

/-- R154, R158, R159, R162, R163: what the completion of a write or cut stores, and its DONE. The new check byte makes the
sum of the stored bytes 0. -/
def Obligations.CompletionsStoreTheTable : Prop :=
  ∀ (s : State) (c : Instr) (kind : Byte) (k : Nat) (change : Change) (source : Byte) (begun : Tick)
    (entries : List (List Byte)),
    s.cal.activity = .writing k change source begun → isLater s.tick begun = true → s.cal.tables.length = 13 → k < 13 →
    RoomForReply s →
    ((∃ index bytes, change = .entry index bytes ∧ c = .writeComplete ∧ kind = 0x34 ∧
        (index < (tableEntries s.cal k).length → entries = (tableEntries s.cal k).set index bytes) ∧
        (index = (tableEntries s.cal k).length → entries = tableEntries s.cal k ++ [bytes]) ∧
        index ≤ (tableEntries s.cal k).length) ∨
      (∃ n, change = .cut n ∧ c = .cutComplete ∧ kind = 0x35 ∧ entries = (tableEntries s.cal k).take n)) →
    ∃ t, exec c s = .next t ∧
      (storedTable t.cal k).entries = entries ∧ (storedTable t.cal k).count = entries.length ∧
      (storedTable t.cal k).openMark = false ∧
      (entries ≠ [] → byteSum (storedBytes entries.length entries) + (storedTable t.cal k).check = 0) ∧
      (∀ j, j ≠ k → storedTable t.cal j = storedTable s.cal j) ∧
      t.cal.failed = s.cal.failed.filter (fun j => decide (j ≠ k)) ∧ t.cal.activity = .idle ∧
      t.cal.calibrated = calibratedNow t.cal ∧ t.cal.lock = s.cal.lock ∧ t.cal.eraseMarker = s.cal.eraseMarker ∧
      t.cal.working = loadCopy k entries s.cal.working ∧
      t.setup = s.setup ∧
      t.link = { s.link with queue := s.link.queue ++ [mkFrame .reply source [kind, 0, BitVec.ofNat 8 k]] } ∧
      t.counters = s.counters ∧ t.det = s.det ∧ t.temp = s.temp ∧ t.tick = s.tick ∧ t.veh = s.veh ∧ t.former = s.former

/-- R165, R166: the answers of LOCK in their order, an ERASE refused or begun with its marker set, and the completion of an
erase, which empties the tables and clears lock, failed set, working copies, calibrated flag and marker together. -/
def Obligations.LockAndEraseAct : Prop :=
  (∀ (s : State) (f : RxFrame) (rest : List RxFrame), AtFront 0x36 f rest s → f.payload = [] → f.dest ≠ 255 →
    RoomForReply s →
    (∀ code,
      (code = .notAllowed ∧ s.straps.calEnable = false) ∨
      (code = .busy ∧ s.straps.calEnable = true ∧ (s.cal.activity ≠ .idle ∨ s.ctl.restartPending = true)) ∨
      (s.straps.calEnable = true ∧ s.cal.activity = .idle ∧ s.ctl.restartPending = false ∧
        ((code = .done ∧ s.cal.lock = true) ∨
          (code = .notAllowed ∧ s.cal.lock = false ∧ ∃ k, k ≤ 4 ∧ tablePresent s.cal k = false))) →
      exec .lock s = .next (s.withLink { takenLink rest s with
        queue := answered f code 255 s.link.queue })) ∧
    (s.straps.calEnable = true → s.cal.activity = .idle → s.ctl.restartPending = false → s.cal.lock = false →
      (∀ k, k ≤ 4 → tablePresent s.cal k = true) →
      exec .lock s = .next ((s.withCal { s.cal with lock := true }).withLink { takenLink rest s with
        queue := answered f .done 255 s.link.queue }))) ∧
  (∀ (s : State) (f : RxFrame) (rest : List RxFrame), AtFront 0x37 f rest s → f.payload = [] → f.dest ≠ 255 →
    RoomForReply s →
    (∀ code,
      (code = .notAllowed ∧ s.straps.calEnable = false) ∨
      (code = .busy ∧ s.straps.calEnable = true ∧ (s.cal.activity ≠ .idle ∨ s.ctl.restartPending = true)) →
      exec .erase s = .next (s.withLink { takenLink rest s with
        queue := answered f code 255 s.link.queue })) ∧
    (s.straps.calEnable = true → s.cal.activity = .idle → s.ctl.restartPending = false →
      exec .erase s = .next ((taken rest s).withCal { s.cal with
        eraseMarker := true, activity := .erasing f.source s.tick }))) ∧
  ∀ (s : State) (source : Byte) (begun : Tick), s.cal.activity = .erasing source begun → isLater s.tick begun = true →
    RoomForReply s →
    exec .eraseComplete s = .next ((s.withCal { CalMemory.blank with working := .absent }).withLink { s.link with
      queue := s.link.queue ++ [mkFrame .reply source [0x37, 0, 255]] })

/-! ### Frames read back -/

/-- R134, R171 to R175: the CRC register run on through the two CRC bytes of a frame ends at 0; a beacon and a HALF_AXLE that
the station forms are not malformed, and a receiver reads back from every frame the station forms the fields it was formed
from, each in the bytes and bits of its layout, with the codes the layouts name. -/
def Obligations.FramesReadBackAsFormed : Prop :=
  (∀ (kind source dest : Byte) (payload : List Byte), crcRun 0xFFFF#16 (wireBytes kind source dest payload) = 0) ∧
  (∀ (s : State) (t u : Tick) (dest : Byte), s.setup.group ≤ 3 → tempInRange s.temp.value = true →
    beaconMalformed (stampBeacon (beaconPayload s) t) = false ∧
    newPeer ⟨0x20, ownNumber s, dest, stampBeacon (beaconPayload s) t, u⟩ =
      { station := ownNumber s, lane := BitVec.ofNat 8 (ownLane s), group := s.setup.group, temp := s.temp.value,
        source := s.temp.source, last := u, offset := t - u, previous := none, stable := 0, state := .heard,
        lossExpiry := u + 28000 }) ∧
  (∀ (v : Vehicle) (c : Classed), v.outcome = some c → v.axles.length ≤ 12 → v.lead ≤ 255 → c.cls ≤ 15 →
    (∀ k ∈ c.entry, k ≤ 11) → c.speed ≤ 2500 → (∀ t ∈ c.firstTemp, tempInRange t = true) →
    (∀ d ∈ allWheels v.axles, ∀ n ∈ d.load, n ≤ 65535) →
    VehicleLayout v c (vehiclePayload v) ∧
    ((∀ a ∈ v.axles, a.kind ≠ .pending ∧ (a.kind = .part → a.left = none ∨ a.right = none)) →
      (vehiclePayload v).length ≤ 80)) ∧
  (∀ (lane : Nat) (v : Vehicle) (c : Classed), lane ≤ 255 → c.cls ≤ 15 → (∀ k ∈ c.entry, k ≤ 11) → c.speed ≤ 2500 →
    c.gross < 16777216 → c.exceeding.length ≤ 9 → (∀ e ∈ c.exceeding, e.1 ≤ 255 ∧ e.2 < 16777216) →
    OverloadLayout lane v c (overloadPayload lane v c)) ∧
  (∀ s : State, CountersFit s → s.setup.group ≤ 3 → BeaconLayout s (beaconPayload s) ∧ StartLayout s (startFrame s).payload) ∧
  (∀ s : State, tempInRange s.temp.value = true → tempInRange s.temp.least = true → tempInRange s.temp.greatest = true →
    (∀ f ∈ filtered s.temp.probes.p0, tempInRange f = true) → (∀ f ∈ filtered s.temp.probes.p1, tempInRange f = true) →
    s.temp.goodReadings ≤ 65535 → TemperatureLayout s (temperatureFrame s).payload) ∧
  (∀ s : State, CountersFit s → s.veh.entries.length ≤ 8 → 0 < s.veh.runCount → s.veh.runCount ≤ s.setup.clearCount →
    s.setup.clearCount ≤ 255 → LaneClearLayout s (laneClearFrame s).payload) ∧
  (([.absent, .waiting, .valid, .stale, .fault] : List ProbeState).map probeCode = [0, 1, 2, 3, 4] ∧
    ([some .p0, some .p1, none] : List (Option ProbeIx)).map weighingCode = [0, 1, 3] ∧
    ([some .probe, some .altProbe, some .peer, some .held, some .default, none] : List (Option Source)).map sourceCodeOpt =
      [0, 1, 2, 3, 4, 7] ∧
    ([.powerOn, .supplyLow, .resetLine, .linkRestart] : List ResetKind).map resetCode = [0, 1, 2, 3] ∧
    ([.selftest, .settling, .run] : List StationState).map stateCode = [0, 1, 2] ∧
    ([.gap, .vacancy, .spacing, .speed, .axleLimit] : List CloseCause).map (fun x => causeCode (some x)) = [0, 1, 2, 3, 4] ∧
    (∀ w i v, (screeningConditions w i v).map (fun x => reasonCode x.2) = [1, 2, 3, 4, 5, 6, 7, 8, 9, 10, 11, 12, 13]) ∧
    allNotices.map priority = [1, 2, 3, 4, 5, 6, 7, 8, 9, 10, 11, 12] ∧
    ∀ d : WheelData, wheelState d = if d.notWeighed then 3 else if d.disagree then 2 else if d.clipped then 1 else 0) ∧
  ∀ (ref : Byte) (w : OwnWheel) (n : Nat) (x : Int) (src : Source), 1389 ≤ w.speed → w.speed ≤ 69444 →
    n ≤ 65535 → tempInRange x = true →
    (w.data = ⟨some n, false, false, false, w.data.uncalibrated, some x, some src⟩ ∨
      w.data = ⟨some n, true, false, false, w.data.uncalibrated, some x, some src⟩ ∨
      w.data = ⟨some n, false, true, false, w.data.uncalibrated, some x, some src⟩ ∨
      w.data = ⟨none, false, false, true, w.data.uncalibrated, some x, some src⟩ ∨
      w.data = ⟨none, false, false, true, w.data.uncalibrated, none, none⟩) →
    halfMalformed (halfPayload ref w) = false ∧ halfWheel (halfPayload ref w) = w.data ∧
    byteAt (halfPayload ref w) 0 = ref ∧ byteAt (halfPayload ref w) 1 = 0 ∧
    BitVec.ofNat 32 (numAt (halfPayload ref w) 2 4) = w.time ∧ numAt (halfPayload ref w) 6 2 = recordSpeed w.speed
end

