-- ==== Sys2Proof/Laws/State.lean ====
section
/-! SUPPORT. The laws of the block updates of State: one for each field and update, true by rfl, so that no later proof
unfolds an update. -/

namespace Sys2Proof.Machine

open Sys2Proof

variable (s : State)

@[simp] theorem State.withTick_tick (x : Tick) : (s.withTick x).tick = x := rfl
@[simp] theorem State.withTick_outstanding (x : Tick) : (s.withTick x).outstanding = s.outstanding := rfl
@[simp] theorem State.withTick_ctl (x : Tick) : (s.withTick x).ctl = s.ctl := rfl
@[simp] theorem State.withTick_straps (x : Tick) : (s.withTick x).straps = s.straps := rfl
@[simp] theorem State.withTick_raised (x : Tick) : (s.withTick x).raised = s.raised := rfl
@[simp] theorem State.withTick_setup (x : Tick) : (s.withTick x).setup = s.setup := rfl
@[simp] theorem State.withTick_pins (x : Tick) : (s.withTick x).pins = s.pins := rfl
@[simp] theorem State.withTick_det (x : Tick) : (s.withTick x).det = s.det := rfl
@[simp] theorem State.withTick_pairer (x : Tick) : (s.withTick x).pairer = s.pairer := rfl
@[simp] theorem State.withTick_weigh (x : Tick) : (s.withTick x).weigh = s.weigh := rfl
@[simp] theorem State.withTick_temp (x : Tick) : (s.withTick x).temp = s.temp := rfl
@[simp] theorem State.withTick_former (x : Tick) : (s.withTick x).former = s.former := rfl
@[simp] theorem State.withTick_veh (x : Tick) : (s.withTick x).veh = s.veh := rfl
@[simp] theorem State.withTick_screenOn (x : Tick) : (s.withTick x).screenOn = s.screenOn := rfl
@[simp] theorem State.withTick_peers (x : Tick) : (s.withTick x).peers = s.peers := rfl
@[simp] theorem State.withTick_link (x : Tick) : (s.withTick x).link = s.link := rfl
@[simp] theorem State.withTick_cal (x : Tick) : (s.withTick x).cal = s.cal := rfl
@[simp] theorem State.withTick_counters (x : Tick) : (s.withTick x).counters = s.counters := rfl
@[simp] theorem State.withTick_pending (x : Tick) : (s.withTick x).pending = s.pending := rfl
@[simp] theorem State.withTick_twice (x y : Tick) : (s.withTick x).withTick y = s.withTick y := rfl
@[simp] theorem State.withTick_self : s.withTick s.tick = s := rfl

@[simp] theorem State.withOutstanding_tick (x : Option Tick) : (s.withOutstanding x).tick = s.tick := rfl
@[simp] theorem State.withOutstanding_outstanding (x : Option Tick) : (s.withOutstanding x).outstanding = x := rfl
@[simp] theorem State.withOutstanding_ctl (x : Option Tick) : (s.withOutstanding x).ctl = s.ctl := rfl
@[simp] theorem State.withOutstanding_straps (x : Option Tick) : (s.withOutstanding x).straps = s.straps := rfl
@[simp] theorem State.withOutstanding_raised (x : Option Tick) : (s.withOutstanding x).raised = s.raised := rfl
@[simp] theorem State.withOutstanding_setup (x : Option Tick) : (s.withOutstanding x).setup = s.setup := rfl
@[simp] theorem State.withOutstanding_pins (x : Option Tick) : (s.withOutstanding x).pins = s.pins := rfl
@[simp] theorem State.withOutstanding_det (x : Option Tick) : (s.withOutstanding x).det = s.det := rfl
@[simp] theorem State.withOutstanding_pairer (x : Option Tick) : (s.withOutstanding x).pairer = s.pairer := rfl
@[simp] theorem State.withOutstanding_weigh (x : Option Tick) : (s.withOutstanding x).weigh = s.weigh := rfl
@[simp] theorem State.withOutstanding_temp (x : Option Tick) : (s.withOutstanding x).temp = s.temp := rfl
@[simp] theorem State.withOutstanding_former (x : Option Tick) : (s.withOutstanding x).former = s.former := rfl
@[simp] theorem State.withOutstanding_veh (x : Option Tick) : (s.withOutstanding x).veh = s.veh := rfl
@[simp] theorem State.withOutstanding_screenOn (x : Option Tick) : (s.withOutstanding x).screenOn = s.screenOn := rfl
@[simp] theorem State.withOutstanding_peers (x : Option Tick) : (s.withOutstanding x).peers = s.peers := rfl
@[simp] theorem State.withOutstanding_link (x : Option Tick) : (s.withOutstanding x).link = s.link := rfl
@[simp] theorem State.withOutstanding_cal (x : Option Tick) : (s.withOutstanding x).cal = s.cal := rfl
@[simp] theorem State.withOutstanding_counters (x : Option Tick) : (s.withOutstanding x).counters = s.counters := rfl
@[simp] theorem State.withOutstanding_pending (x : Option Tick) : (s.withOutstanding x).pending = s.pending := rfl
@[simp] theorem State.withOutstanding_twice (x y : Option Tick) : (s.withOutstanding x).withOutstanding y = s.withOutstanding y := rfl
@[simp] theorem State.withOutstanding_self : s.withOutstanding s.outstanding = s := rfl

@[simp] theorem State.withCtl_tick (x : Control) : (s.withCtl x).tick = s.tick := rfl
@[simp] theorem State.withCtl_outstanding (x : Control) : (s.withCtl x).outstanding = s.outstanding := rfl
@[simp] theorem State.withCtl_ctl (x : Control) : (s.withCtl x).ctl = x := rfl
@[simp] theorem State.withCtl_straps (x : Control) : (s.withCtl x).straps = s.straps := rfl
@[simp] theorem State.withCtl_raised (x : Control) : (s.withCtl x).raised = s.raised := rfl
@[simp] theorem State.withCtl_setup (x : Control) : (s.withCtl x).setup = s.setup := rfl
@[simp] theorem State.withCtl_pins (x : Control) : (s.withCtl x).pins = s.pins := rfl
@[simp] theorem State.withCtl_det (x : Control) : (s.withCtl x).det = s.det := rfl
@[simp] theorem State.withCtl_pairer (x : Control) : (s.withCtl x).pairer = s.pairer := rfl
@[simp] theorem State.withCtl_weigh (x : Control) : (s.withCtl x).weigh = s.weigh := rfl
@[simp] theorem State.withCtl_temp (x : Control) : (s.withCtl x).temp = s.temp := rfl
@[simp] theorem State.withCtl_former (x : Control) : (s.withCtl x).former = s.former := rfl
@[simp] theorem State.withCtl_veh (x : Control) : (s.withCtl x).veh = s.veh := rfl
@[simp] theorem State.withCtl_screenOn (x : Control) : (s.withCtl x).screenOn = s.screenOn := rfl
@[simp] theorem State.withCtl_peers (x : Control) : (s.withCtl x).peers = s.peers := rfl
@[simp] theorem State.withCtl_link (x : Control) : (s.withCtl x).link = s.link := rfl
@[simp] theorem State.withCtl_cal (x : Control) : (s.withCtl x).cal = s.cal := rfl
@[simp] theorem State.withCtl_counters (x : Control) : (s.withCtl x).counters = s.counters := rfl
@[simp] theorem State.withCtl_pending (x : Control) : (s.withCtl x).pending = s.pending := rfl
@[simp] theorem State.withCtl_twice (x y : Control) : (s.withCtl x).withCtl y = s.withCtl y := rfl
@[simp] theorem State.withCtl_self : s.withCtl s.ctl = s := rfl

@[simp] theorem State.withStraps_tick (x : Straps) : (s.withStraps x).tick = s.tick := rfl
@[simp] theorem State.withStraps_outstanding (x : Straps) : (s.withStraps x).outstanding = s.outstanding := rfl
@[simp] theorem State.withStraps_ctl (x : Straps) : (s.withStraps x).ctl = s.ctl := rfl
@[simp] theorem State.withStraps_straps (x : Straps) : (s.withStraps x).straps = x := rfl
@[simp] theorem State.withStraps_raised (x : Straps) : (s.withStraps x).raised = s.raised := rfl
@[simp] theorem State.withStraps_setup (x : Straps) : (s.withStraps x).setup = s.setup := rfl
@[simp] theorem State.withStraps_pins (x : Straps) : (s.withStraps x).pins = s.pins := rfl
@[simp] theorem State.withStraps_det (x : Straps) : (s.withStraps x).det = s.det := rfl
@[simp] theorem State.withStraps_pairer (x : Straps) : (s.withStraps x).pairer = s.pairer := rfl
@[simp] theorem State.withStraps_weigh (x : Straps) : (s.withStraps x).weigh = s.weigh := rfl
@[simp] theorem State.withStraps_temp (x : Straps) : (s.withStraps x).temp = s.temp := rfl
@[simp] theorem State.withStraps_former (x : Straps) : (s.withStraps x).former = s.former := rfl
@[simp] theorem State.withStraps_veh (x : Straps) : (s.withStraps x).veh = s.veh := rfl
@[simp] theorem State.withStraps_screenOn (x : Straps) : (s.withStraps x).screenOn = s.screenOn := rfl
@[simp] theorem State.withStraps_peers (x : Straps) : (s.withStraps x).peers = s.peers := rfl
@[simp] theorem State.withStraps_link (x : Straps) : (s.withStraps x).link = s.link := rfl
@[simp] theorem State.withStraps_cal (x : Straps) : (s.withStraps x).cal = s.cal := rfl
@[simp] theorem State.withStraps_counters (x : Straps) : (s.withStraps x).counters = s.counters := rfl
@[simp] theorem State.withStraps_pending (x : Straps) : (s.withStraps x).pending = s.pending := rfl
@[simp] theorem State.withStraps_twice (x y : Straps) : (s.withStraps x).withStraps y = s.withStraps y := rfl
@[simp] theorem State.withStraps_self : s.withStraps s.straps = s := rfl

@[simp] theorem State.withRaised_tick (x : Raised) : (s.withRaised x).tick = s.tick := rfl
@[simp] theorem State.withRaised_outstanding (x : Raised) : (s.withRaised x).outstanding = s.outstanding := rfl
@[simp] theorem State.withRaised_ctl (x : Raised) : (s.withRaised x).ctl = s.ctl := rfl
@[simp] theorem State.withRaised_straps (x : Raised) : (s.withRaised x).straps = s.straps := rfl
@[simp] theorem State.withRaised_raised (x : Raised) : (s.withRaised x).raised = x := rfl
@[simp] theorem State.withRaised_setup (x : Raised) : (s.withRaised x).setup = s.setup := rfl
@[simp] theorem State.withRaised_pins (x : Raised) : (s.withRaised x).pins = s.pins := rfl
@[simp] theorem State.withRaised_det (x : Raised) : (s.withRaised x).det = s.det := rfl
@[simp] theorem State.withRaised_pairer (x : Raised) : (s.withRaised x).pairer = s.pairer := rfl
@[simp] theorem State.withRaised_weigh (x : Raised) : (s.withRaised x).weigh = s.weigh := rfl
@[simp] theorem State.withRaised_temp (x : Raised) : (s.withRaised x).temp = s.temp := rfl
@[simp] theorem State.withRaised_former (x : Raised) : (s.withRaised x).former = s.former := rfl
@[simp] theorem State.withRaised_veh (x : Raised) : (s.withRaised x).veh = s.veh := rfl
@[simp] theorem State.withRaised_screenOn (x : Raised) : (s.withRaised x).screenOn = s.screenOn := rfl
@[simp] theorem State.withRaised_peers (x : Raised) : (s.withRaised x).peers = s.peers := rfl
@[simp] theorem State.withRaised_link (x : Raised) : (s.withRaised x).link = s.link := rfl
@[simp] theorem State.withRaised_cal (x : Raised) : (s.withRaised x).cal = s.cal := rfl
@[simp] theorem State.withRaised_counters (x : Raised) : (s.withRaised x).counters = s.counters := rfl
@[simp] theorem State.withRaised_pending (x : Raised) : (s.withRaised x).pending = s.pending := rfl
@[simp] theorem State.withRaised_twice (x y : Raised) : (s.withRaised x).withRaised y = s.withRaised y := rfl
@[simp] theorem State.withRaised_self : s.withRaised s.raised = s := rfl

@[simp] theorem State.withSetup_tick (x : Setup) : (s.withSetup x).tick = s.tick := rfl
@[simp] theorem State.withSetup_outstanding (x : Setup) : (s.withSetup x).outstanding = s.outstanding := rfl
@[simp] theorem State.withSetup_ctl (x : Setup) : (s.withSetup x).ctl = s.ctl := rfl
@[simp] theorem State.withSetup_straps (x : Setup) : (s.withSetup x).straps = s.straps := rfl
@[simp] theorem State.withSetup_raised (x : Setup) : (s.withSetup x).raised = s.raised := rfl
@[simp] theorem State.withSetup_setup (x : Setup) : (s.withSetup x).setup = x := rfl
@[simp] theorem State.withSetup_pins (x : Setup) : (s.withSetup x).pins = s.pins := rfl
@[simp] theorem State.withSetup_det (x : Setup) : (s.withSetup x).det = s.det := rfl
@[simp] theorem State.withSetup_pairer (x : Setup) : (s.withSetup x).pairer = s.pairer := rfl
@[simp] theorem State.withSetup_weigh (x : Setup) : (s.withSetup x).weigh = s.weigh := rfl
@[simp] theorem State.withSetup_temp (x : Setup) : (s.withSetup x).temp = s.temp := rfl
@[simp] theorem State.withSetup_former (x : Setup) : (s.withSetup x).former = s.former := rfl
@[simp] theorem State.withSetup_veh (x : Setup) : (s.withSetup x).veh = s.veh := rfl
@[simp] theorem State.withSetup_screenOn (x : Setup) : (s.withSetup x).screenOn = s.screenOn := rfl
@[simp] theorem State.withSetup_peers (x : Setup) : (s.withSetup x).peers = s.peers := rfl
@[simp] theorem State.withSetup_link (x : Setup) : (s.withSetup x).link = s.link := rfl
@[simp] theorem State.withSetup_cal (x : Setup) : (s.withSetup x).cal = s.cal := rfl
@[simp] theorem State.withSetup_counters (x : Setup) : (s.withSetup x).counters = s.counters := rfl
@[simp] theorem State.withSetup_pending (x : Setup) : (s.withSetup x).pending = s.pending := rfl
@[simp] theorem State.withSetup_twice (x y : Setup) : (s.withSetup x).withSetup y = s.withSetup y := rfl
@[simp] theorem State.withSetup_self : s.withSetup s.setup = s := rfl

@[simp] theorem State.withPins_tick (x : Pins) : (s.withPins x).tick = s.tick := rfl
@[simp] theorem State.withPins_outstanding (x : Pins) : (s.withPins x).outstanding = s.outstanding := rfl
@[simp] theorem State.withPins_ctl (x : Pins) : (s.withPins x).ctl = s.ctl := rfl
@[simp] theorem State.withPins_straps (x : Pins) : (s.withPins x).straps = s.straps := rfl
@[simp] theorem State.withPins_raised (x : Pins) : (s.withPins x).raised = s.raised := rfl
@[simp] theorem State.withPins_setup (x : Pins) : (s.withPins x).setup = s.setup := rfl
@[simp] theorem State.withPins_pins (x : Pins) : (s.withPins x).pins = x := rfl
@[simp] theorem State.withPins_det (x : Pins) : (s.withPins x).det = s.det := rfl
@[simp] theorem State.withPins_pairer (x : Pins) : (s.withPins x).pairer = s.pairer := rfl
@[simp] theorem State.withPins_weigh (x : Pins) : (s.withPins x).weigh = s.weigh := rfl
@[simp] theorem State.withPins_temp (x : Pins) : (s.withPins x).temp = s.temp := rfl
@[simp] theorem State.withPins_former (x : Pins) : (s.withPins x).former = s.former := rfl
@[simp] theorem State.withPins_veh (x : Pins) : (s.withPins x).veh = s.veh := rfl
@[simp] theorem State.withPins_screenOn (x : Pins) : (s.withPins x).screenOn = s.screenOn := rfl
@[simp] theorem State.withPins_peers (x : Pins) : (s.withPins x).peers = s.peers := rfl
@[simp] theorem State.withPins_link (x : Pins) : (s.withPins x).link = s.link := rfl
@[simp] theorem State.withPins_cal (x : Pins) : (s.withPins x).cal = s.cal := rfl
@[simp] theorem State.withPins_counters (x : Pins) : (s.withPins x).counters = s.counters := rfl
@[simp] theorem State.withPins_pending (x : Pins) : (s.withPins x).pending = s.pending := rfl
@[simp] theorem State.withPins_twice (x y : Pins) : (s.withPins x).withPins y = s.withPins y := rfl
@[simp] theorem State.withPins_self : s.withPins s.pins = s := rfl

@[simp] theorem State.withDet_tick (x : Quad Detector) : (s.withDet x).tick = s.tick := rfl
@[simp] theorem State.withDet_outstanding (x : Quad Detector) : (s.withDet x).outstanding = s.outstanding := rfl
@[simp] theorem State.withDet_ctl (x : Quad Detector) : (s.withDet x).ctl = s.ctl := rfl
@[simp] theorem State.withDet_straps (x : Quad Detector) : (s.withDet x).straps = s.straps := rfl
@[simp] theorem State.withDet_raised (x : Quad Detector) : (s.withDet x).raised = s.raised := rfl
@[simp] theorem State.withDet_setup (x : Quad Detector) : (s.withDet x).setup = s.setup := rfl
@[simp] theorem State.withDet_pins (x : Quad Detector) : (s.withDet x).pins = s.pins := rfl
@[simp] theorem State.withDet_det (x : Quad Detector) : (s.withDet x).det = x := rfl
@[simp] theorem State.withDet_pairer (x : Quad Detector) : (s.withDet x).pairer = s.pairer := rfl
@[simp] theorem State.withDet_weigh (x : Quad Detector) : (s.withDet x).weigh = s.weigh := rfl
@[simp] theorem State.withDet_temp (x : Quad Detector) : (s.withDet x).temp = s.temp := rfl
@[simp] theorem State.withDet_former (x : Quad Detector) : (s.withDet x).former = s.former := rfl
@[simp] theorem State.withDet_veh (x : Quad Detector) : (s.withDet x).veh = s.veh := rfl
@[simp] theorem State.withDet_screenOn (x : Quad Detector) : (s.withDet x).screenOn = s.screenOn := rfl
@[simp] theorem State.withDet_peers (x : Quad Detector) : (s.withDet x).peers = s.peers := rfl
@[simp] theorem State.withDet_link (x : Quad Detector) : (s.withDet x).link = s.link := rfl
@[simp] theorem State.withDet_cal (x : Quad Detector) : (s.withDet x).cal = s.cal := rfl
@[simp] theorem State.withDet_counters (x : Quad Detector) : (s.withDet x).counters = s.counters := rfl
@[simp] theorem State.withDet_pending (x : Quad Detector) : (s.withDet x).pending = s.pending := rfl
@[simp] theorem State.withDet_twice (x y : Quad Detector) : (s.withDet x).withDet y = s.withDet y := rfl
@[simp] theorem State.withDet_self : s.withDet s.det = s := rfl

@[simp] theorem State.withPairer_tick (x : PerPath (List PulseRec)) : (s.withPairer x).tick = s.tick := rfl
@[simp] theorem State.withPairer_outstanding (x : PerPath (List PulseRec)) : (s.withPairer x).outstanding = s.outstanding := rfl
@[simp] theorem State.withPairer_ctl (x : PerPath (List PulseRec)) : (s.withPairer x).ctl = s.ctl := rfl
@[simp] theorem State.withPairer_straps (x : PerPath (List PulseRec)) : (s.withPairer x).straps = s.straps := rfl
@[simp] theorem State.withPairer_raised (x : PerPath (List PulseRec)) : (s.withPairer x).raised = s.raised := rfl
@[simp] theorem State.withPairer_setup (x : PerPath (List PulseRec)) : (s.withPairer x).setup = s.setup := rfl
@[simp] theorem State.withPairer_pins (x : PerPath (List PulseRec)) : (s.withPairer x).pins = s.pins := rfl
@[simp] theorem State.withPairer_det (x : PerPath (List PulseRec)) : (s.withPairer x).det = s.det := rfl
@[simp] theorem State.withPairer_pairer (x : PerPath (List PulseRec)) : (s.withPairer x).pairer = x := rfl
@[simp] theorem State.withPairer_weigh (x : PerPath (List PulseRec)) : (s.withPairer x).weigh = s.weigh := rfl
@[simp] theorem State.withPairer_temp (x : PerPath (List PulseRec)) : (s.withPairer x).temp = s.temp := rfl
@[simp] theorem State.withPairer_former (x : PerPath (List PulseRec)) : (s.withPairer x).former = s.former := rfl
@[simp] theorem State.withPairer_veh (x : PerPath (List PulseRec)) : (s.withPairer x).veh = s.veh := rfl
@[simp] theorem State.withPairer_screenOn (x : PerPath (List PulseRec)) : (s.withPairer x).screenOn = s.screenOn := rfl
@[simp] theorem State.withPairer_peers (x : PerPath (List PulseRec)) : (s.withPairer x).peers = s.peers := rfl
@[simp] theorem State.withPairer_link (x : PerPath (List PulseRec)) : (s.withPairer x).link = s.link := rfl
@[simp] theorem State.withPairer_cal (x : PerPath (List PulseRec)) : (s.withPairer x).cal = s.cal := rfl
@[simp] theorem State.withPairer_counters (x : PerPath (List PulseRec)) : (s.withPairer x).counters = s.counters := rfl
@[simp] theorem State.withPairer_pending (x : PerPath (List PulseRec)) : (s.withPairer x).pending = s.pending := rfl
@[simp] theorem State.withPairer_twice (x y : PerPath (List PulseRec)) : (s.withPairer x).withPairer y = s.withPairer y := rfl
@[simp] theorem State.withPairer_self : s.withPairer s.pairer = s := rfl

@[simp] theorem State.withWeigh_tick (x : WeighUnit) : (s.withWeigh x).tick = s.tick := rfl
@[simp] theorem State.withWeigh_outstanding (x : WeighUnit) : (s.withWeigh x).outstanding = s.outstanding := rfl
@[simp] theorem State.withWeigh_ctl (x : WeighUnit) : (s.withWeigh x).ctl = s.ctl := rfl
@[simp] theorem State.withWeigh_straps (x : WeighUnit) : (s.withWeigh x).straps = s.straps := rfl
@[simp] theorem State.withWeigh_raised (x : WeighUnit) : (s.withWeigh x).raised = s.raised := rfl
@[simp] theorem State.withWeigh_setup (x : WeighUnit) : (s.withWeigh x).setup = s.setup := rfl
@[simp] theorem State.withWeigh_pins (x : WeighUnit) : (s.withWeigh x).pins = s.pins := rfl
@[simp] theorem State.withWeigh_det (x : WeighUnit) : (s.withWeigh x).det = s.det := rfl
@[simp] theorem State.withWeigh_pairer (x : WeighUnit) : (s.withWeigh x).pairer = s.pairer := rfl
@[simp] theorem State.withWeigh_weigh (x : WeighUnit) : (s.withWeigh x).weigh = x := rfl
@[simp] theorem State.withWeigh_temp (x : WeighUnit) : (s.withWeigh x).temp = s.temp := rfl
@[simp] theorem State.withWeigh_former (x : WeighUnit) : (s.withWeigh x).former = s.former := rfl
@[simp] theorem State.withWeigh_veh (x : WeighUnit) : (s.withWeigh x).veh = s.veh := rfl
@[simp] theorem State.withWeigh_screenOn (x : WeighUnit) : (s.withWeigh x).screenOn = s.screenOn := rfl
@[simp] theorem State.withWeigh_peers (x : WeighUnit) : (s.withWeigh x).peers = s.peers := rfl
@[simp] theorem State.withWeigh_link (x : WeighUnit) : (s.withWeigh x).link = s.link := rfl
@[simp] theorem State.withWeigh_cal (x : WeighUnit) : (s.withWeigh x).cal = s.cal := rfl
@[simp] theorem State.withWeigh_counters (x : WeighUnit) : (s.withWeigh x).counters = s.counters := rfl
@[simp] theorem State.withWeigh_pending (x : WeighUnit) : (s.withWeigh x).pending = s.pending := rfl
@[simp] theorem State.withWeigh_twice (x y : WeighUnit) : (s.withWeigh x).withWeigh y = s.withWeigh y := rfl
@[simp] theorem State.withWeigh_self : s.withWeigh s.weigh = s := rfl

@[simp] theorem State.withTemp_tick (x : TempUnit) : (s.withTemp x).tick = s.tick := rfl
@[simp] theorem State.withTemp_outstanding (x : TempUnit) : (s.withTemp x).outstanding = s.outstanding := rfl
@[simp] theorem State.withTemp_ctl (x : TempUnit) : (s.withTemp x).ctl = s.ctl := rfl
@[simp] theorem State.withTemp_straps (x : TempUnit) : (s.withTemp x).straps = s.straps := rfl
@[simp] theorem State.withTemp_raised (x : TempUnit) : (s.withTemp x).raised = s.raised := rfl
@[simp] theorem State.withTemp_setup (x : TempUnit) : (s.withTemp x).setup = s.setup := rfl
@[simp] theorem State.withTemp_pins (x : TempUnit) : (s.withTemp x).pins = s.pins := rfl
@[simp] theorem State.withTemp_det (x : TempUnit) : (s.withTemp x).det = s.det := rfl
@[simp] theorem State.withTemp_pairer (x : TempUnit) : (s.withTemp x).pairer = s.pairer := rfl
@[simp] theorem State.withTemp_weigh (x : TempUnit) : (s.withTemp x).weigh = s.weigh := rfl
@[simp] theorem State.withTemp_temp (x : TempUnit) : (s.withTemp x).temp = x := rfl
@[simp] theorem State.withTemp_former (x : TempUnit) : (s.withTemp x).former = s.former := rfl
@[simp] theorem State.withTemp_veh (x : TempUnit) : (s.withTemp x).veh = s.veh := rfl
@[simp] theorem State.withTemp_screenOn (x : TempUnit) : (s.withTemp x).screenOn = s.screenOn := rfl
@[simp] theorem State.withTemp_peers (x : TempUnit) : (s.withTemp x).peers = s.peers := rfl
@[simp] theorem State.withTemp_link (x : TempUnit) : (s.withTemp x).link = s.link := rfl
@[simp] theorem State.withTemp_cal (x : TempUnit) : (s.withTemp x).cal = s.cal := rfl
@[simp] theorem State.withTemp_counters (x : TempUnit) : (s.withTemp x).counters = s.counters := rfl
@[simp] theorem State.withTemp_pending (x : TempUnit) : (s.withTemp x).pending = s.pending := rfl
@[simp] theorem State.withTemp_twice (x y : TempUnit) : (s.withTemp x).withTemp y = s.withTemp y := rfl
@[simp] theorem State.withTemp_self : s.withTemp s.temp = s := rfl

@[simp] theorem State.withFormer_tick (x : Former) : (s.withFormer x).tick = s.tick := rfl
@[simp] theorem State.withFormer_outstanding (x : Former) : (s.withFormer x).outstanding = s.outstanding := rfl
@[simp] theorem State.withFormer_ctl (x : Former) : (s.withFormer x).ctl = s.ctl := rfl
@[simp] theorem State.withFormer_straps (x : Former) : (s.withFormer x).straps = s.straps := rfl
@[simp] theorem State.withFormer_raised (x : Former) : (s.withFormer x).raised = s.raised := rfl
@[simp] theorem State.withFormer_setup (x : Former) : (s.withFormer x).setup = s.setup := rfl
@[simp] theorem State.withFormer_pins (x : Former) : (s.withFormer x).pins = s.pins := rfl
@[simp] theorem State.withFormer_det (x : Former) : (s.withFormer x).det = s.det := rfl
@[simp] theorem State.withFormer_pairer (x : Former) : (s.withFormer x).pairer = s.pairer := rfl
@[simp] theorem State.withFormer_weigh (x : Former) : (s.withFormer x).weigh = s.weigh := rfl
@[simp] theorem State.withFormer_temp (x : Former) : (s.withFormer x).temp = s.temp := rfl
@[simp] theorem State.withFormer_former (x : Former) : (s.withFormer x).former = x := rfl
@[simp] theorem State.withFormer_veh (x : Former) : (s.withFormer x).veh = s.veh := rfl
@[simp] theorem State.withFormer_screenOn (x : Former) : (s.withFormer x).screenOn = s.screenOn := rfl
@[simp] theorem State.withFormer_peers (x : Former) : (s.withFormer x).peers = s.peers := rfl
@[simp] theorem State.withFormer_link (x : Former) : (s.withFormer x).link = s.link := rfl
@[simp] theorem State.withFormer_cal (x : Former) : (s.withFormer x).cal = s.cal := rfl
@[simp] theorem State.withFormer_counters (x : Former) : (s.withFormer x).counters = s.counters := rfl
@[simp] theorem State.withFormer_pending (x : Former) : (s.withFormer x).pending = s.pending := rfl
@[simp] theorem State.withFormer_twice (x y : Former) : (s.withFormer x).withFormer y = s.withFormer y := rfl
@[simp] theorem State.withFormer_self : s.withFormer s.former = s := rfl

@[simp] theorem State.withVeh_tick (x : Assembler) : (s.withVeh x).tick = s.tick := rfl
@[simp] theorem State.withVeh_outstanding (x : Assembler) : (s.withVeh x).outstanding = s.outstanding := rfl
@[simp] theorem State.withVeh_ctl (x : Assembler) : (s.withVeh x).ctl = s.ctl := rfl
@[simp] theorem State.withVeh_straps (x : Assembler) : (s.withVeh x).straps = s.straps := rfl
@[simp] theorem State.withVeh_raised (x : Assembler) : (s.withVeh x).raised = s.raised := rfl
@[simp] theorem State.withVeh_setup (x : Assembler) : (s.withVeh x).setup = s.setup := rfl
@[simp] theorem State.withVeh_pins (x : Assembler) : (s.withVeh x).pins = s.pins := rfl
@[simp] theorem State.withVeh_det (x : Assembler) : (s.withVeh x).det = s.det := rfl
@[simp] theorem State.withVeh_pairer (x : Assembler) : (s.withVeh x).pairer = s.pairer := rfl
@[simp] theorem State.withVeh_weigh (x : Assembler) : (s.withVeh x).weigh = s.weigh := rfl
@[simp] theorem State.withVeh_temp (x : Assembler) : (s.withVeh x).temp = s.temp := rfl
@[simp] theorem State.withVeh_former (x : Assembler) : (s.withVeh x).former = s.former := rfl
@[simp] theorem State.withVeh_veh (x : Assembler) : (s.withVeh x).veh = x := rfl
@[simp] theorem State.withVeh_screenOn (x : Assembler) : (s.withVeh x).screenOn = s.screenOn := rfl
@[simp] theorem State.withVeh_peers (x : Assembler) : (s.withVeh x).peers = s.peers := rfl
@[simp] theorem State.withVeh_link (x : Assembler) : (s.withVeh x).link = s.link := rfl
@[simp] theorem State.withVeh_cal (x : Assembler) : (s.withVeh x).cal = s.cal := rfl
@[simp] theorem State.withVeh_counters (x : Assembler) : (s.withVeh x).counters = s.counters := rfl
@[simp] theorem State.withVeh_pending (x : Assembler) : (s.withVeh x).pending = s.pending := rfl
@[simp] theorem State.withVeh_twice (x y : Assembler) : (s.withVeh x).withVeh y = s.withVeh y := rfl
@[simp] theorem State.withVeh_self : s.withVeh s.veh = s := rfl

@[simp] theorem State.withScreenOn_tick (x : Bool) : (s.withScreenOn x).tick = s.tick := rfl
@[simp] theorem State.withScreenOn_outstanding (x : Bool) : (s.withScreenOn x).outstanding = s.outstanding := rfl
@[simp] theorem State.withScreenOn_ctl (x : Bool) : (s.withScreenOn x).ctl = s.ctl := rfl
@[simp] theorem State.withScreenOn_straps (x : Bool) : (s.withScreenOn x).straps = s.straps := rfl
@[simp] theorem State.withScreenOn_raised (x : Bool) : (s.withScreenOn x).raised = s.raised := rfl
@[simp] theorem State.withScreenOn_setup (x : Bool) : (s.withScreenOn x).setup = s.setup := rfl
@[simp] theorem State.withScreenOn_pins (x : Bool) : (s.withScreenOn x).pins = s.pins := rfl
@[simp] theorem State.withScreenOn_det (x : Bool) : (s.withScreenOn x).det = s.det := rfl
@[simp] theorem State.withScreenOn_pairer (x : Bool) : (s.withScreenOn x).pairer = s.pairer := rfl
@[simp] theorem State.withScreenOn_weigh (x : Bool) : (s.withScreenOn x).weigh = s.weigh := rfl
@[simp] theorem State.withScreenOn_temp (x : Bool) : (s.withScreenOn x).temp = s.temp := rfl
@[simp] theorem State.withScreenOn_former (x : Bool) : (s.withScreenOn x).former = s.former := rfl
@[simp] theorem State.withScreenOn_veh (x : Bool) : (s.withScreenOn x).veh = s.veh := rfl
@[simp] theorem State.withScreenOn_screenOn (x : Bool) : (s.withScreenOn x).screenOn = x := rfl
@[simp] theorem State.withScreenOn_peers (x : Bool) : (s.withScreenOn x).peers = s.peers := rfl
@[simp] theorem State.withScreenOn_link (x : Bool) : (s.withScreenOn x).link = s.link := rfl
@[simp] theorem State.withScreenOn_cal (x : Bool) : (s.withScreenOn x).cal = s.cal := rfl
@[simp] theorem State.withScreenOn_counters (x : Bool) : (s.withScreenOn x).counters = s.counters := rfl
@[simp] theorem State.withScreenOn_pending (x : Bool) : (s.withScreenOn x).pending = s.pending := rfl
@[simp] theorem State.withScreenOn_twice (x y : Bool) : (s.withScreenOn x).withScreenOn y = s.withScreenOn y := rfl
@[simp] theorem State.withScreenOn_self : s.withScreenOn s.screenOn = s := rfl

@[simp] theorem State.withPeers_tick (x : List Peer) : (s.withPeers x).tick = s.tick := rfl
@[simp] theorem State.withPeers_outstanding (x : List Peer) : (s.withPeers x).outstanding = s.outstanding := rfl
@[simp] theorem State.withPeers_ctl (x : List Peer) : (s.withPeers x).ctl = s.ctl := rfl
@[simp] theorem State.withPeers_straps (x : List Peer) : (s.withPeers x).straps = s.straps := rfl
@[simp] theorem State.withPeers_raised (x : List Peer) : (s.withPeers x).raised = s.raised := rfl
@[simp] theorem State.withPeers_setup (x : List Peer) : (s.withPeers x).setup = s.setup := rfl
@[simp] theorem State.withPeers_pins (x : List Peer) : (s.withPeers x).pins = s.pins := rfl
@[simp] theorem State.withPeers_det (x : List Peer) : (s.withPeers x).det = s.det := rfl
@[simp] theorem State.withPeers_pairer (x : List Peer) : (s.withPeers x).pairer = s.pairer := rfl
@[simp] theorem State.withPeers_weigh (x : List Peer) : (s.withPeers x).weigh = s.weigh := rfl
@[simp] theorem State.withPeers_temp (x : List Peer) : (s.withPeers x).temp = s.temp := rfl
@[simp] theorem State.withPeers_former (x : List Peer) : (s.withPeers x).former = s.former := rfl
@[simp] theorem State.withPeers_veh (x : List Peer) : (s.withPeers x).veh = s.veh := rfl
@[simp] theorem State.withPeers_screenOn (x : List Peer) : (s.withPeers x).screenOn = s.screenOn := rfl
@[simp] theorem State.withPeers_peers (x : List Peer) : (s.withPeers x).peers = x := rfl
@[simp] theorem State.withPeers_link (x : List Peer) : (s.withPeers x).link = s.link := rfl
@[simp] theorem State.withPeers_cal (x : List Peer) : (s.withPeers x).cal = s.cal := rfl
@[simp] theorem State.withPeers_counters (x : List Peer) : (s.withPeers x).counters = s.counters := rfl
@[simp] theorem State.withPeers_pending (x : List Peer) : (s.withPeers x).pending = s.pending := rfl
@[simp] theorem State.withPeers_twice (x y : List Peer) : (s.withPeers x).withPeers y = s.withPeers y := rfl
@[simp] theorem State.withPeers_self : s.withPeers s.peers = s := rfl

@[simp] theorem State.withLink_tick (x : Link) : (s.withLink x).tick = s.tick := rfl
@[simp] theorem State.withLink_outstanding (x : Link) : (s.withLink x).outstanding = s.outstanding := rfl
@[simp] theorem State.withLink_ctl (x : Link) : (s.withLink x).ctl = s.ctl := rfl
@[simp] theorem State.withLink_straps (x : Link) : (s.withLink x).straps = s.straps := rfl
@[simp] theorem State.withLink_raised (x : Link) : (s.withLink x).raised = s.raised := rfl
@[simp] theorem State.withLink_setup (x : Link) : (s.withLink x).setup = s.setup := rfl
@[simp] theorem State.withLink_pins (x : Link) : (s.withLink x).pins = s.pins := rfl
@[simp] theorem State.withLink_det (x : Link) : (s.withLink x).det = s.det := rfl
@[simp] theorem State.withLink_pairer (x : Link) : (s.withLink x).pairer = s.pairer := rfl
@[simp] theorem State.withLink_weigh (x : Link) : (s.withLink x).weigh = s.weigh := rfl
@[simp] theorem State.withLink_temp (x : Link) : (s.withLink x).temp = s.temp := rfl
@[simp] theorem State.withLink_former (x : Link) : (s.withLink x).former = s.former := rfl
@[simp] theorem State.withLink_veh (x : Link) : (s.withLink x).veh = s.veh := rfl
@[simp] theorem State.withLink_screenOn (x : Link) : (s.withLink x).screenOn = s.screenOn := rfl
@[simp] theorem State.withLink_peers (x : Link) : (s.withLink x).peers = s.peers := rfl
@[simp] theorem State.withLink_link (x : Link) : (s.withLink x).link = x := rfl
@[simp] theorem State.withLink_cal (x : Link) : (s.withLink x).cal = s.cal := rfl
@[simp] theorem State.withLink_counters (x : Link) : (s.withLink x).counters = s.counters := rfl
@[simp] theorem State.withLink_pending (x : Link) : (s.withLink x).pending = s.pending := rfl
@[simp] theorem State.withLink_twice (x y : Link) : (s.withLink x).withLink y = s.withLink y := rfl
@[simp] theorem State.withLink_self : s.withLink s.link = s := rfl

@[simp] theorem State.withCal_tick (x : CalMemory) : (s.withCal x).tick = s.tick := rfl
@[simp] theorem State.withCal_outstanding (x : CalMemory) : (s.withCal x).outstanding = s.outstanding := rfl
@[simp] theorem State.withCal_ctl (x : CalMemory) : (s.withCal x).ctl = s.ctl := rfl
@[simp] theorem State.withCal_straps (x : CalMemory) : (s.withCal x).straps = s.straps := rfl
@[simp] theorem State.withCal_raised (x : CalMemory) : (s.withCal x).raised = s.raised := rfl
@[simp] theorem State.withCal_setup (x : CalMemory) : (s.withCal x).setup = s.setup := rfl
@[simp] theorem State.withCal_pins (x : CalMemory) : (s.withCal x).pins = s.pins := rfl
@[simp] theorem State.withCal_det (x : CalMemory) : (s.withCal x).det = s.det := rfl
@[simp] theorem State.withCal_pairer (x : CalMemory) : (s.withCal x).pairer = s.pairer := rfl
@[simp] theorem State.withCal_weigh (x : CalMemory) : (s.withCal x).weigh = s.weigh := rfl
@[simp] theorem State.withCal_temp (x : CalMemory) : (s.withCal x).temp = s.temp := rfl
@[simp] theorem State.withCal_former (x : CalMemory) : (s.withCal x).former = s.former := rfl
@[simp] theorem State.withCal_veh (x : CalMemory) : (s.withCal x).veh = s.veh := rfl
@[simp] theorem State.withCal_screenOn (x : CalMemory) : (s.withCal x).screenOn = s.screenOn := rfl
@[simp] theorem State.withCal_peers (x : CalMemory) : (s.withCal x).peers = s.peers := rfl
@[simp] theorem State.withCal_link (x : CalMemory) : (s.withCal x).link = s.link := rfl
@[simp] theorem State.withCal_cal (x : CalMemory) : (s.withCal x).cal = x := rfl
@[simp] theorem State.withCal_counters (x : CalMemory) : (s.withCal x).counters = s.counters := rfl
@[simp] theorem State.withCal_pending (x : CalMemory) : (s.withCal x).pending = s.pending := rfl
@[simp] theorem State.withCal_twice (x y : CalMemory) : (s.withCal x).withCal y = s.withCal y := rfl
@[simp] theorem State.withCal_self : s.withCal s.cal = s := rfl

@[simp] theorem State.withCounters_tick (x : Counters) : (s.withCounters x).tick = s.tick := rfl
@[simp] theorem State.withCounters_outstanding (x : Counters) : (s.withCounters x).outstanding = s.outstanding := rfl
@[simp] theorem State.withCounters_ctl (x : Counters) : (s.withCounters x).ctl = s.ctl := rfl
@[simp] theorem State.withCounters_straps (x : Counters) : (s.withCounters x).straps = s.straps := rfl
@[simp] theorem State.withCounters_raised (x : Counters) : (s.withCounters x).raised = s.raised := rfl
@[simp] theorem State.withCounters_setup (x : Counters) : (s.withCounters x).setup = s.setup := rfl
@[simp] theorem State.withCounters_pins (x : Counters) : (s.withCounters x).pins = s.pins := rfl
@[simp] theorem State.withCounters_det (x : Counters) : (s.withCounters x).det = s.det := rfl
@[simp] theorem State.withCounters_pairer (x : Counters) : (s.withCounters x).pairer = s.pairer := rfl
@[simp] theorem State.withCounters_weigh (x : Counters) : (s.withCounters x).weigh = s.weigh := rfl
@[simp] theorem State.withCounters_temp (x : Counters) : (s.withCounters x).temp = s.temp := rfl
@[simp] theorem State.withCounters_former (x : Counters) : (s.withCounters x).former = s.former := rfl
@[simp] theorem State.withCounters_veh (x : Counters) : (s.withCounters x).veh = s.veh := rfl
@[simp] theorem State.withCounters_screenOn (x : Counters) : (s.withCounters x).screenOn = s.screenOn := rfl
@[simp] theorem State.withCounters_peers (x : Counters) : (s.withCounters x).peers = s.peers := rfl
@[simp] theorem State.withCounters_link (x : Counters) : (s.withCounters x).link = s.link := rfl
@[simp] theorem State.withCounters_cal (x : Counters) : (s.withCounters x).cal = s.cal := rfl
@[simp] theorem State.withCounters_counters (x : Counters) : (s.withCounters x).counters = x := rfl
@[simp] theorem State.withCounters_pending (x : Counters) : (s.withCounters x).pending = s.pending := rfl
@[simp] theorem State.withCounters_twice (x y : Counters) : (s.withCounters x).withCounters y = s.withCounters y := rfl
@[simp] theorem State.withCounters_self : s.withCounters s.counters = s := rfl

@[simp] theorem State.withPending_tick (x : List Instr) : (s.withPending x).tick = s.tick := rfl
@[simp] theorem State.withPending_outstanding (x : List Instr) : (s.withPending x).outstanding = s.outstanding := rfl
@[simp] theorem State.withPending_ctl (x : List Instr) : (s.withPending x).ctl = s.ctl := rfl
@[simp] theorem State.withPending_straps (x : List Instr) : (s.withPending x).straps = s.straps := rfl
@[simp] theorem State.withPending_raised (x : List Instr) : (s.withPending x).raised = s.raised := rfl
@[simp] theorem State.withPending_setup (x : List Instr) : (s.withPending x).setup = s.setup := rfl
@[simp] theorem State.withPending_pins (x : List Instr) : (s.withPending x).pins = s.pins := rfl
@[simp] theorem State.withPending_det (x : List Instr) : (s.withPending x).det = s.det := rfl
@[simp] theorem State.withPending_pairer (x : List Instr) : (s.withPending x).pairer = s.pairer := rfl
@[simp] theorem State.withPending_weigh (x : List Instr) : (s.withPending x).weigh = s.weigh := rfl
@[simp] theorem State.withPending_temp (x : List Instr) : (s.withPending x).temp = s.temp := rfl
@[simp] theorem State.withPending_former (x : List Instr) : (s.withPending x).former = s.former := rfl
@[simp] theorem State.withPending_veh (x : List Instr) : (s.withPending x).veh = s.veh := rfl
@[simp] theorem State.withPending_screenOn (x : List Instr) : (s.withPending x).screenOn = s.screenOn := rfl
@[simp] theorem State.withPending_peers (x : List Instr) : (s.withPending x).peers = s.peers := rfl
@[simp] theorem State.withPending_link (x : List Instr) : (s.withPending x).link = s.link := rfl
@[simp] theorem State.withPending_cal (x : List Instr) : (s.withPending x).cal = s.cal := rfl
@[simp] theorem State.withPending_counters (x : List Instr) : (s.withPending x).counters = s.counters := rfl
@[simp] theorem State.withPending_pending (x : List Instr) : (s.withPending x).pending = x := rfl
@[simp] theorem State.withPending_twice (x y : List Instr) : (s.withPending x).withPending y = s.withPending y := rfl
@[simp] theorem State.withPending_self : s.withPending s.pending = s := rfl

end Sys2Proof.Machine
end

