-- ==== Sys2Proof/Laws/Link.lean ====
section
/-! SUPPORT. For each operation over the state of the counters, the notices, the transmit queue and the replies, the blocks of the
state that it leaves as they are. -/

namespace Sys2Proof.Machine

open Sys2Proof

@[simp] theorem bump_frame (k : Counter) (s : State) :
    (bump k s).tick = s.tick ∧ (bump k s).outstanding = s.outstanding ∧ (bump k s).ctl = s.ctl ∧
    (bump k s).straps = s.straps ∧ (bump k s).raised = s.raised ∧ (bump k s).setup = s.setup ∧
    (bump k s).pins = s.pins ∧ (bump k s).det = s.det ∧ (bump k s).pairer = s.pairer ∧ (bump k s).weigh = s.weigh ∧
    (bump k s).temp = s.temp ∧ (bump k s).former = s.former ∧ (bump k s).veh = s.veh ∧
    (bump k s).screenOn = s.screenOn ∧ (bump k s).peers = s.peers ∧ (bump k s).link = s.link ∧
    (bump k s).cal = s.cal ∧ (bump k s).pending = s.pending := by
  simp [bump]

@[simp] theorem bumpTimes_frame (k : Counter) (n : Nat) (s : State) :
    (bumpTimes k n s).tick = s.tick ∧ (bumpTimes k n s).outstanding = s.outstanding ∧ (bumpTimes k n s).ctl = s.ctl ∧
    (bumpTimes k n s).straps = s.straps ∧ (bumpTimes k n s).raised = s.raised ∧ (bumpTimes k n s).setup = s.setup ∧
    (bumpTimes k n s).pins = s.pins ∧ (bumpTimes k n s).det = s.det ∧ (bumpTimes k n s).pairer = s.pairer ∧
    (bumpTimes k n s).weigh = s.weigh ∧ (bumpTimes k n s).temp = s.temp ∧ (bumpTimes k n s).former = s.former ∧
    (bumpTimes k n s).veh = s.veh ∧ (bumpTimes k n s).screenOn = s.screenOn ∧ (bumpTimes k n s).peers = s.peers ∧
    (bumpTimes k n s).link = s.link ∧ (bumpTimes k n s).cal = s.cal ∧ (bumpTimes k n s).pending = s.pending := by
  induction n generalizing s with
  | zero => simp [bumpTimes]
  | succ n ih => simp [bumpTimes, ih]

@[simp] theorem raise_frame (n : Notice) (s : State) :
    (raise n s).tick = s.tick ∧ (raise n s).outstanding = s.outstanding ∧ (raise n s).ctl = s.ctl ∧
    (raise n s).straps = s.straps ∧ (raise n s).setup = s.setup ∧ (raise n s).pins = s.pins ∧
    (raise n s).det = s.det ∧ (raise n s).pairer = s.pairer ∧ (raise n s).weigh = s.weigh ∧
    (raise n s).temp = s.temp ∧ (raise n s).former = s.former ∧ (raise n s).veh = s.veh ∧
    (raise n s).screenOn = s.screenOn ∧ (raise n s).peers = s.peers ∧ (raise n s).cal = s.cal ∧
    (raise n s).counters = s.counters ∧ (raise n s).pending = s.pending := by
  simp [raise]

@[simp] theorem mergeConflict_frame (s : State) :
    (mergeConflict s).tick = s.tick ∧ (mergeConflict s).outstanding = s.outstanding ∧ (mergeConflict s).ctl = s.ctl ∧
    (mergeConflict s).straps = s.straps ∧ (mergeConflict s).setup = s.setup ∧ (mergeConflict s).pins = s.pins ∧
    (mergeConflict s).det = s.det ∧ (mergeConflict s).pairer = s.pairer ∧ (mergeConflict s).weigh = s.weigh ∧
    (mergeConflict s).temp = s.temp ∧ (mergeConflict s).former = s.former ∧ (mergeConflict s).veh = s.veh ∧
    (mergeConflict s).screenOn = s.screenOn ∧ (mergeConflict s).peers = s.peers ∧ (mergeConflict s).cal = s.cal ∧
    (mergeConflict s).pending = s.pending := by
  simp [mergeConflict]

@[simp] theorem mergeFull_frame (s : State) :
    (mergeFull s).tick = s.tick ∧ (mergeFull s).outstanding = s.outstanding ∧ (mergeFull s).ctl = s.ctl ∧
    (mergeFull s).straps = s.straps ∧ (mergeFull s).setup = s.setup ∧ (mergeFull s).pins = s.pins ∧
    (mergeFull s).det = s.det ∧ (mergeFull s).pairer = s.pairer ∧ (mergeFull s).weigh = s.weigh ∧
    (mergeFull s).temp = s.temp ∧ (mergeFull s).former = s.former ∧ (mergeFull s).veh = s.veh ∧
    (mergeFull s).screenOn = s.screenOn ∧ (mergeFull s).peers = s.peers ∧ (mergeFull s).cal = s.cal ∧
    (mergeFull s).pending = s.pending := by
  simp [mergeFull]

@[simp] theorem txDrop_frame (s : State) :
    (txDrop s).tick = s.tick ∧ (txDrop s).outstanding = s.outstanding ∧ (txDrop s).ctl = s.ctl ∧
    (txDrop s).straps = s.straps ∧ (txDrop s).setup = s.setup ∧ (txDrop s).pins = s.pins ∧ (txDrop s).det = s.det ∧
    (txDrop s).pairer = s.pairer ∧ (txDrop s).weigh = s.weigh ∧ (txDrop s).temp = s.temp ∧
    (txDrop s).former = s.former ∧ (txDrop s).veh = s.veh ∧ (txDrop s).screenOn = s.screenOn ∧
    (txDrop s).peers = s.peers ∧ (txDrop s).cal = s.cal ∧ (txDrop s).pending = s.pending := by
  simp [txDrop]

@[simp] theorem withQueue_frame (s : State) (q : List TxFrame) :
    (withQueue s q).tick = s.tick ∧ (withQueue s q).outstanding = s.outstanding ∧ (withQueue s q).ctl = s.ctl ∧
    (withQueue s q).straps = s.straps ∧ (withQueue s q).raised = s.raised ∧ (withQueue s q).setup = s.setup ∧
    (withQueue s q).pins = s.pins ∧ (withQueue s q).det = s.det ∧ (withQueue s q).pairer = s.pairer ∧
    (withQueue s q).weigh = s.weigh ∧ (withQueue s q).temp = s.temp ∧ (withQueue s q).former = s.former ∧
    (withQueue s q).veh = s.veh ∧ (withQueue s q).screenOn = s.screenOn ∧ (withQueue s q).peers = s.peers ∧
    (withQueue s q).cal = s.cal ∧ (withQueue s q).counters = s.counters ∧ (withQueue s q).pending = s.pending := by
  simp [withQueue]

@[simp] theorem withImmediate_frame (s : State) (f : Option TxFrame) :
    (withImmediate s f).tick = s.tick ∧ (withImmediate s f).outstanding = s.outstanding ∧
    (withImmediate s f).ctl = s.ctl ∧ (withImmediate s f).straps = s.straps ∧ (withImmediate s f).raised = s.raised ∧
    (withImmediate s f).setup = s.setup ∧ (withImmediate s f).pins = s.pins ∧ (withImmediate s f).det = s.det ∧
    (withImmediate s f).pairer = s.pairer ∧ (withImmediate s f).weigh = s.weigh ∧ (withImmediate s f).temp = s.temp ∧
    (withImmediate s f).former = s.former ∧ (withImmediate s f).veh = s.veh ∧
    (withImmediate s f).screenOn = s.screenOn ∧ (withImmediate s f).peers = s.peers ∧
    (withImmediate s f).cal = s.cal ∧ (withImmediate s f).counters = s.counters ∧
    (withImmediate s f).pending = s.pending := by
  simp [withImmediate]

@[simp] theorem takePlace_frame (f : TxFrame) (s : State) :
    (takePlace f s).tick = s.tick ∧ (takePlace f s).outstanding = s.outstanding ∧ (takePlace f s).ctl = s.ctl ∧
    (takePlace f s).straps = s.straps ∧ (takePlace f s).raised = s.raised ∧ (takePlace f s).setup = s.setup ∧
    (takePlace f s).pins = s.pins ∧ (takePlace f s).det = s.det ∧ (takePlace f s).pairer = s.pairer ∧
    (takePlace f s).weigh = s.weigh ∧ (takePlace f s).temp = s.temp ∧ (takePlace f s).former = s.former ∧
    (takePlace f s).veh = s.veh ∧ (takePlace f s).screenOn = s.screenOn ∧ (takePlace f s).peers = s.peers ∧
    (takePlace f s).cal = s.cal ∧ (takePlace f s).counters = s.counters ∧ (takePlace f s).pending = s.pending := by
  simp [takePlace]

@[simp] theorem offerPlain_frame (f : TxFrame) (s : State) :
    (offerPlain f s).1.tick = s.tick ∧ (offerPlain f s).1.outstanding = s.outstanding ∧
    (offerPlain f s).1.ctl = s.ctl ∧ (offerPlain f s).1.straps = s.straps ∧ (offerPlain f s).1.setup = s.setup ∧
    (offerPlain f s).1.pins = s.pins ∧ (offerPlain f s).1.det = s.det ∧ (offerPlain f s).1.pairer = s.pairer ∧
    (offerPlain f s).1.weigh = s.weigh ∧ (offerPlain f s).1.temp = s.temp ∧ (offerPlain f s).1.former = s.former ∧
    (offerPlain f s).1.veh = s.veh ∧ (offerPlain f s).1.screenOn = s.screenOn ∧ (offerPlain f s).1.peers = s.peers ∧
    (offerPlain f s).1.cal = s.cal ∧ (offerPlain f s).1.pending = s.pending := by
  unfold offerPlain
  split <;> simp

@[simp] theorem offerBeacon_frame (f : TxFrame) (s : State) :
    (offerBeacon f s).tick = s.tick ∧ (offerBeacon f s).outstanding = s.outstanding ∧ (offerBeacon f s).ctl = s.ctl ∧
    (offerBeacon f s).straps = s.straps ∧ (offerBeacon f s).setup = s.setup ∧ (offerBeacon f s).pins = s.pins ∧
    (offerBeacon f s).det = s.det ∧ (offerBeacon f s).pairer = s.pairer ∧ (offerBeacon f s).weigh = s.weigh ∧
    (offerBeacon f s).temp = s.temp ∧ (offerBeacon f s).former = s.former ∧ (offerBeacon f s).veh = s.veh ∧
    (offerBeacon f s).screenOn = s.screenOn ∧ (offerBeacon f s).peers = s.peers ∧ (offerBeacon f s).cal = s.cal ∧
    (offerBeacon f s).pending = s.pending := by
  unfold offerBeacon
  split <;> simp

@[simp] theorem changeVehicle_frame (number : BitVec 16) (g : Vehicle → Vehicle) (s : State) :
    (changeVehicle number g s).tick = s.tick ∧ (changeVehicle number g s).outstanding = s.outstanding ∧
    (changeVehicle number g s).ctl = s.ctl ∧ (changeVehicle number g s).straps = s.straps ∧
    (changeVehicle number g s).raised = s.raised ∧ (changeVehicle number g s).setup = s.setup ∧
    (changeVehicle number g s).pins = s.pins ∧ (changeVehicle number g s).det = s.det ∧
    (changeVehicle number g s).pairer = s.pairer ∧ (changeVehicle number g s).weigh = s.weigh ∧
    (changeVehicle number g s).temp = s.temp ∧ (changeVehicle number g s).former = s.former ∧
    (changeVehicle number g s).screenOn = s.screenOn ∧ (changeVehicle number g s).peers = s.peers ∧
    (changeVehicle number g s).link = s.link ∧ (changeVehicle number g s).cal = s.cal ∧
    (changeVehicle number g s).counters = s.counters ∧ (changeVehicle number g s).pending = s.pending := by
  simp [changeVehicle]

@[simp] theorem returnToReady_frame (f : TxFrame) (s : State) :
    (returnToReady f s).tick = s.tick ∧ (returnToReady f s).outstanding = s.outstanding ∧
    (returnToReady f s).ctl = s.ctl ∧ (returnToReady f s).straps = s.straps ∧ (returnToReady f s).raised = s.raised ∧
    (returnToReady f s).setup = s.setup ∧ (returnToReady f s).pins = s.pins ∧ (returnToReady f s).det = s.det ∧
    (returnToReady f s).pairer = s.pairer ∧ (returnToReady f s).weigh = s.weigh ∧ (returnToReady f s).temp = s.temp ∧
    (returnToReady f s).former = s.former ∧ (returnToReady f s).screenOn = s.screenOn ∧
    (returnToReady f s).peers = s.peers ∧ (returnToReady f s).link = s.link ∧ (returnToReady f s).cal = s.cal ∧
    (returnToReady f s).counters = s.counters ∧ (returnToReady f s).pending = s.pending := by
  unfold returnToReady
  split <;> simp

@[simp] theorem offerUrgent_frame (f : TxFrame) (s : State) :
    (offerUrgent f s).1.tick = s.tick ∧ (offerUrgent f s).1.outstanding = s.outstanding ∧
    (offerUrgent f s).1.ctl = s.ctl ∧ (offerUrgent f s).1.straps = s.straps ∧ (offerUrgent f s).1.setup = s.setup ∧
    (offerUrgent f s).1.pins = s.pins ∧ (offerUrgent f s).1.det = s.det ∧ (offerUrgent f s).1.pairer = s.pairer ∧
    (offerUrgent f s).1.weigh = s.weigh ∧ (offerUrgent f s).1.temp = s.temp ∧ (offerUrgent f s).1.former = s.former ∧
    (offerUrgent f s).1.screenOn = s.screenOn ∧ (offerUrgent f s).1.peers = s.peers ∧
    (offerUrgent f s).1.cal = s.cal ∧ (offerUrgent f s).1.pending = s.pending := by
  unfold offerUrgent
  (repeat' split) <;> simp

@[simp] theorem admitVehicle_frame (v : Vehicle) (s : State) :
    (admitVehicle v s).tick = s.tick ∧ (admitVehicle v s).outstanding = s.outstanding ∧
    (admitVehicle v s).ctl = s.ctl ∧ (admitVehicle v s).straps = s.straps ∧ (admitVehicle v s).raised = s.raised ∧
    (admitVehicle v s).setup = s.setup ∧ (admitVehicle v s).pins = s.pins ∧ (admitVehicle v s).det = s.det ∧
    (admitVehicle v s).pairer = s.pairer ∧ (admitVehicle v s).weigh = s.weigh ∧ (admitVehicle v s).temp = s.temp ∧
    (admitVehicle v s).former = s.former ∧ (admitVehicle v s).screenOn = s.screenOn ∧
    (admitVehicle v s).peers = s.peers ∧ (admitVehicle v s).cal = s.cal ∧ (admitVehicle v s).counters = s.counters ∧
    (admitVehicle v s).pending = s.pending := by
  simp [admitVehicle]

@[simp] theorem offerList_frame (l : List (BitVec 16)) (s : State) :
    (offerList l s).tick = s.tick ∧ (offerList l s).outstanding = s.outstanding ∧ (offerList l s).ctl = s.ctl ∧
    (offerList l s).straps = s.straps ∧ (offerList l s).raised = s.raised ∧ (offerList l s).setup = s.setup ∧
    (offerList l s).pins = s.pins ∧ (offerList l s).det = s.det ∧ (offerList l s).pairer = s.pairer ∧
    (offerList l s).weigh = s.weigh ∧ (offerList l s).temp = s.temp ∧ (offerList l s).former = s.former ∧
    (offerList l s).screenOn = s.screenOn ∧ (offerList l s).peers = s.peers ∧ (offerList l s).cal = s.cal ∧
    (offerList l s).counters = s.counters ∧ (offerList l s).pending = s.pending := by
  induction l generalizing s with
  | nil => simp [offerList]
  | cons number l ih =>
    unfold offerList
    (repeat' split) <;> simp [ih]

@[simp] theorem offerReady_frame (s : State) :
    (offerReady s).tick = s.tick ∧ (offerReady s).outstanding = s.outstanding ∧ (offerReady s).ctl = s.ctl ∧
    (offerReady s).straps = s.straps ∧ (offerReady s).raised = s.raised ∧ (offerReady s).setup = s.setup ∧
    (offerReady s).pins = s.pins ∧ (offerReady s).det = s.det ∧ (offerReady s).pairer = s.pairer ∧
    (offerReady s).weigh = s.weigh ∧ (offerReady s).temp = s.temp ∧ (offerReady s).former = s.former ∧
    (offerReady s).screenOn = s.screenOn ∧ (offerReady s).peers = s.peers ∧ (offerReady s).cal = s.cal ∧
    (offerReady s).counters = s.counters ∧ (offerReady s).pending = s.pending := by
  simp [offerReady]

@[simp] theorem freeVehicle_frame (number : BitVec 16) (s : State) :
    (freeVehicle number s).tick = s.tick ∧ (freeVehicle number s).outstanding = s.outstanding ∧
    (freeVehicle number s).ctl = s.ctl ∧ (freeVehicle number s).straps = s.straps ∧
    (freeVehicle number s).raised = s.raised ∧ (freeVehicle number s).setup = s.setup ∧
    (freeVehicle number s).pins = s.pins ∧ (freeVehicle number s).det = s.det ∧
    (freeVehicle number s).pairer = s.pairer ∧ (freeVehicle number s).weigh = s.weigh ∧
    (freeVehicle number s).temp = s.temp ∧ (freeVehicle number s).former = s.former ∧
    (freeVehicle number s).screenOn = s.screenOn ∧ (freeVehicle number s).peers = s.peers ∧
    (freeVehicle number s).link = s.link ∧ (freeVehicle number s).cal = s.cal ∧
    (freeVehicle number s).counters = s.counters ∧ (freeVehicle number s).pending = s.pending := by
  simp [freeVehicle]

@[simp] theorem refillImmediate_frame (s : State) :
    (refillImmediate s).tick = s.tick ∧ (refillImmediate s).outstanding = s.outstanding ∧
    (refillImmediate s).ctl = s.ctl ∧ (refillImmediate s).straps = s.straps ∧ (refillImmediate s).raised = s.raised ∧
    (refillImmediate s).setup = s.setup ∧ (refillImmediate s).pins = s.pins ∧ (refillImmediate s).det = s.det ∧
    (refillImmediate s).pairer = s.pairer ∧ (refillImmediate s).weigh = s.weigh ∧ (refillImmediate s).temp = s.temp ∧
    (refillImmediate s).former = s.former ∧ (refillImmediate s).screenOn = s.screenOn ∧
    (refillImmediate s).peers = s.peers ∧ (refillImmediate s).cal = s.cal ∧
    (refillImmediate s).counters = s.counters ∧ (refillImmediate s).pending = s.pending := by
  unfold refillImmediate
  split <;> simp

@[simp] theorem sendReply_frame (dst kind : Byte) (code : ReplyCode) (table : Byte) (s : State) :
    (sendReply dst kind code table s).tick = s.tick ∧ (sendReply dst kind code table s).outstanding = s.outstanding ∧
    (sendReply dst kind code table s).ctl = s.ctl ∧ (sendReply dst kind code table s).straps = s.straps ∧
    (sendReply dst kind code table s).setup = s.setup ∧ (sendReply dst kind code table s).pins = s.pins ∧
    (sendReply dst kind code table s).det = s.det ∧ (sendReply dst kind code table s).pairer = s.pairer ∧
    (sendReply dst kind code table s).weigh = s.weigh ∧ (sendReply dst kind code table s).temp = s.temp ∧
    (sendReply dst kind code table s).former = s.former ∧ (sendReply dst kind code table s).veh = s.veh ∧
    (sendReply dst kind code table s).screenOn = s.screenOn ∧ (sendReply dst kind code table s).peers = s.peers ∧
    (sendReply dst kind code table s).cal = s.cal ∧ (sendReply dst kind code table s).pending = s.pending := by
  simp [sendReply]

@[simp] theorem replyTo_frame (f : RxFrame) (code : ReplyCode) (table : Byte) (s : State) :
    (replyTo f code table s).tick = s.tick ∧ (replyTo f code table s).outstanding = s.outstanding ∧
    (replyTo f code table s).ctl = s.ctl ∧ (replyTo f code table s).straps = s.straps ∧
    (replyTo f code table s).setup = s.setup ∧ (replyTo f code table s).pins = s.pins ∧
    (replyTo f code table s).det = s.det ∧ (replyTo f code table s).pairer = s.pairer ∧
    (replyTo f code table s).weigh = s.weigh ∧ (replyTo f code table s).temp = s.temp ∧
    (replyTo f code table s).former = s.former ∧ (replyTo f code table s).veh = s.veh ∧
    (replyTo f code table s).screenOn = s.screenOn ∧ (replyTo f code table s).peers = s.peers ∧
    (replyTo f code table s).cal = s.cal ∧ (replyTo f code table s).pending = s.pending := by
  unfold replyTo
  split <;> simp

end Sys2Proof.Machine
end

