-- ==== Sys2Proof/Laws/Vehicles.lean ====
section
/-! SUPPORT. For each operation over the state of the vehicle assembler and the axle former, the blocks of the
state that it leaves as they are. -/

namespace Sys2Proof.Machine

open Sys2Proof

@[simp] theorem offerOverload_frame (f : TxFrame) (s : State) :
    (offerOverload f s).1.tick = s.tick ∧ (offerOverload f s).1.outstanding = s.outstanding ∧
    (offerOverload f s).1.ctl = s.ctl ∧ (offerOverload f s).1.straps = s.straps ∧
    (offerOverload f s).1.setup = s.setup ∧ (offerOverload f s).1.pins = s.pins ∧ (offerOverload f s).1.det = s.det ∧
    (offerOverload f s).1.pairer = s.pairer ∧ (offerOverload f s).1.weigh = s.weigh ∧
    (offerOverload f s).1.temp = s.temp ∧ (offerOverload f s).1.former = s.former ∧
    (offerOverload f s).1.screenOn = s.screenOn ∧ (offerOverload f s).1.peers = s.peers ∧
    (offerOverload f s).1.cal = s.cal ∧ (offerOverload f s).1.pending = s.pending := by
  unfold offerOverload
  split <;> simp

@[simp] theorem classVehicle_frame (v : Vehicle) (s : State) :
    (classVehicle v s).tick = s.tick ∧ (classVehicle v s).outstanding = s.outstanding ∧
    (classVehicle v s).ctl = s.ctl ∧ (classVehicle v s).straps = s.straps ∧ (classVehicle v s).setup = s.setup ∧
    (classVehicle v s).pins = s.pins ∧ (classVehicle v s).det = s.det ∧ (classVehicle v s).pairer = s.pairer ∧
    (classVehicle v s).weigh = s.weigh ∧ (classVehicle v s).temp = s.temp ∧ (classVehicle v s).former = s.former ∧
    (classVehicle v s).screenOn = s.screenOn ∧ (classVehicle v s).peers = s.peers ∧ (classVehicle v s).cal = s.cal ∧
    (classVehicle v s).pending = s.pending := by
  unfold classVehicle
  simp only []
  split <;> simp

@[simp] theorem enterClosed_frame (number : BitVec 16) (s : State) :
    (enterClosed number s).tick = s.tick ∧ (enterClosed number s).outstanding = s.outstanding ∧
    (enterClosed number s).ctl = s.ctl ∧ (enterClosed number s).straps = s.straps ∧
    (enterClosed number s).raised = s.raised ∧ (enterClosed number s).setup = s.setup ∧
    (enterClosed number s).pins = s.pins ∧ (enterClosed number s).det = s.det ∧
    (enterClosed number s).pairer = s.pairer ∧ (enterClosed number s).weigh = s.weigh ∧
    (enterClosed number s).temp = s.temp ∧ (enterClosed number s).former = s.former ∧
    (enterClosed number s).screenOn = s.screenOn ∧ (enterClosed number s).peers = s.peers ∧
    (enterClosed number s).link = s.link ∧ (enterClosed number s).cal = s.cal ∧
    (enterClosed number s).counters = s.counters ∧ (enterClosed number s).pending = s.pending := by
  simp [enterClosed]

@[simp] theorem leaveClosing_frame (number : BitVec 16) (s : State) :
    (leaveClosing number s).tick = s.tick ∧ (leaveClosing number s).outstanding = s.outstanding ∧
    (leaveClosing number s).ctl = s.ctl ∧ (leaveClosing number s).straps = s.straps ∧
    (leaveClosing number s).setup = s.setup ∧ (leaveClosing number s).pins = s.pins ∧
    (leaveClosing number s).det = s.det ∧ (leaveClosing number s).pairer = s.pairer ∧
    (leaveClosing number s).weigh = s.weigh ∧ (leaveClosing number s).temp = s.temp ∧
    (leaveClosing number s).former = s.former ∧ (leaveClosing number s).screenOn = s.screenOn ∧
    (leaveClosing number s).peers = s.peers ∧ (leaveClosing number s).cal = s.cal ∧
    (leaveClosing number s).pending = s.pending := by
  unfold leaveClosing
  (repeat' split) <;> simp

@[simp] theorem changeOpen_frame (g : Vehicle → Vehicle) (s : State) :
    (changeOpen g s).tick = s.tick ∧ (changeOpen g s).outstanding = s.outstanding ∧ (changeOpen g s).ctl = s.ctl ∧
    (changeOpen g s).straps = s.straps ∧ (changeOpen g s).raised = s.raised ∧ (changeOpen g s).setup = s.setup ∧
    (changeOpen g s).pins = s.pins ∧ (changeOpen g s).det = s.det ∧ (changeOpen g s).pairer = s.pairer ∧
    (changeOpen g s).weigh = s.weigh ∧ (changeOpen g s).temp = s.temp ∧ (changeOpen g s).former = s.former ∧
    (changeOpen g s).screenOn = s.screenOn ∧ (changeOpen g s).peers = s.peers ∧ (changeOpen g s).link = s.link ∧
    (changeOpen g s).cal = s.cal ∧ (changeOpen g s).counters = s.counters ∧ (changeOpen g s).pending = s.pending := by
  simp [changeOpen]

@[simp] theorem closeEntry_frame (number : BitVec 16) (cause : CloseCause) (s : State) :
    (closeEntry number cause s).tick = s.tick ∧ (closeEntry number cause s).outstanding = s.outstanding ∧
    (closeEntry number cause s).ctl = s.ctl ∧ (closeEntry number cause s).straps = s.straps ∧
    (closeEntry number cause s).setup = s.setup ∧ (closeEntry number cause s).pins = s.pins ∧
    (closeEntry number cause s).det = s.det ∧ (closeEntry number cause s).pairer = s.pairer ∧
    (closeEntry number cause s).weigh = s.weigh ∧ (closeEntry number cause s).temp = s.temp ∧
    (closeEntry number cause s).former = s.former ∧ (closeEntry number cause s).screenOn = s.screenOn ∧
    (closeEntry number cause s).peers = s.peers ∧ (closeEntry number cause s).cal = s.cal ∧
    (closeEntry number cause s).pending = s.pending := by
  simp [closeEntry]

@[simp] theorem truncateEntry_frame (number : BitVec 16) (s : State) :
    (truncateEntry number s).tick = s.tick ∧ (truncateEntry number s).outstanding = s.outstanding ∧
    (truncateEntry number s).ctl = s.ctl ∧ (truncateEntry number s).straps = s.straps ∧
    (truncateEntry number s).setup = s.setup ∧ (truncateEntry number s).pins = s.pins ∧
    (truncateEntry number s).det = s.det ∧ (truncateEntry number s).pairer = s.pairer ∧
    (truncateEntry number s).weigh = s.weigh ∧ (truncateEntry number s).temp = s.temp ∧
    (truncateEntry number s).former = s.former ∧ (truncateEntry number s).screenOn = s.screenOn ∧
    (truncateEntry number s).peers = s.peers ∧ (truncateEntry number s).cal = s.cal ∧
    (truncateEntry number s).pending = s.pending := by
  simp [truncateEntry]

@[simp] theorem openVehicle_frame (a : Axle) (lead : Option Nat) (s : State) :
    (openVehicle a lead s).1.tick = s.tick ∧ (openVehicle a lead s).1.outstanding = s.outstanding ∧
    (openVehicle a lead s).1.ctl = s.ctl ∧ (openVehicle a lead s).1.straps = s.straps ∧
    (openVehicle a lead s).1.setup = s.setup ∧ (openVehicle a lead s).1.pins = s.pins ∧
    (openVehicle a lead s).1.det = s.det ∧ (openVehicle a lead s).1.pairer = s.pairer ∧
    (openVehicle a lead s).1.weigh = s.weigh ∧ (openVehicle a lead s).1.temp = s.temp ∧
    (openVehicle a lead s).1.former = s.former ∧ (openVehicle a lead s).1.screenOn = s.screenOn ∧
    (openVehicle a lead s).1.peers = s.peers ∧ (openVehicle a lead s).1.cal = s.cal ∧
    (openVehicle a lead s).1.pending = s.pending := by
  unfold openVehicle
  split <;> simp

@[simp] theorem endRun_frame (s : State) :
    (endRun s).tick = s.tick ∧ (endRun s).outstanding = s.outstanding ∧ (endRun s).ctl = s.ctl ∧
    (endRun s).straps = s.straps ∧ (endRun s).raised = s.raised ∧ (endRun s).setup = s.setup ∧
    (endRun s).pins = s.pins ∧ (endRun s).det = s.det ∧ (endRun s).pairer = s.pairer ∧ (endRun s).weigh = s.weigh ∧
    (endRun s).temp = s.temp ∧ (endRun s).former = s.former ∧ (endRun s).screenOn = s.screenOn ∧
    (endRun s).peers = s.peers ∧ (endRun s).link = s.link ∧ (endRun s).cal = s.cal ∧
    (endRun s).counters = s.counters ∧ (endRun s).pending = s.pending := by
  simp [endRun]

@[simp] theorem placeAxle_frame (a : Axle) (s : State) :
    (placeAxle a s).1.tick = s.tick ∧ (placeAxle a s).1.outstanding = s.outstanding ∧ (placeAxle a s).1.ctl = s.ctl ∧
    (placeAxle a s).1.straps = s.straps ∧ (placeAxle a s).1.setup = s.setup ∧ (placeAxle a s).1.pins = s.pins ∧
    (placeAxle a s).1.det = s.det ∧ (placeAxle a s).1.pairer = s.pairer ∧ (placeAxle a s).1.weigh = s.weigh ∧
    (placeAxle a s).1.temp = s.temp ∧ (placeAxle a s).1.former = s.former ∧ (placeAxle a s).1.screenOn = s.screenOn ∧
    (placeAxle a s).1.peers = s.peers ∧ (placeAxle a s).1.cal = s.cal ∧ (placeAxle a s).1.pending = s.pending := by
  unfold placeAxle
  (repeat' split) <;> simp

@[simp] theorem handAxle_frame (a : Axle) (s : State) :
    (handAxle a s).1.tick = s.tick ∧ (handAxle a s).1.outstanding = s.outstanding ∧ (handAxle a s).1.ctl = s.ctl ∧
    (handAxle a s).1.straps = s.straps ∧ (handAxle a s).1.setup = s.setup ∧ (handAxle a s).1.pins = s.pins ∧
    (handAxle a s).1.det = s.det ∧ (handAxle a s).1.pairer = s.pairer ∧ (handAxle a s).1.weigh = s.weigh ∧
    (handAxle a s).1.temp = s.temp ∧ (handAxle a s).1.former = s.former ∧ (handAxle a s).1.screenOn = s.screenOn ∧
    (handAxle a s).1.peers = s.peers ∧ (handAxle a s).1.cal = s.cal ∧ (handAxle a s).1.pending = s.pending := by
  simp [handAxle]

@[simp] theorem changeAxle_frame (e : MergeEntry) (g : Axle → Axle) (s : State) :
    (changeAxle e g s).tick = s.tick ∧ (changeAxle e g s).outstanding = s.outstanding ∧
    (changeAxle e g s).ctl = s.ctl ∧ (changeAxle e g s).straps = s.straps ∧ (changeAxle e g s).raised = s.raised ∧
    (changeAxle e g s).setup = s.setup ∧ (changeAxle e g s).pins = s.pins ∧ (changeAxle e g s).det = s.det ∧
    (changeAxle e g s).pairer = s.pairer ∧ (changeAxle e g s).weigh = s.weigh ∧ (changeAxle e g s).temp = s.temp ∧
    (changeAxle e g s).former = s.former ∧ (changeAxle e g s).screenOn = s.screenOn ∧
    (changeAxle e g s).peers = s.peers ∧ (changeAxle e g s).link = s.link ∧ (changeAxle e g s).cal = s.cal ∧
    (changeAxle e g s).counters = s.counters ∧ (changeAxle e g s).pending = s.pending := by
  simp [changeAxle]

@[simp] theorem moveAxle_frame (e : MergeEntry) (g : Axle → Axle) (b : Bool) (s : State) :
    (moveAxle e g b s).tick = s.tick ∧ (moveAxle e g b s).outstanding = s.outstanding ∧
    (moveAxle e g b s).ctl = s.ctl ∧ (moveAxle e g b s).straps = s.straps ∧ (moveAxle e g b s).raised = s.raised ∧
    (moveAxle e g b s).setup = s.setup ∧ (moveAxle e g b s).pins = s.pins ∧ (moveAxle e g b s).det = s.det ∧
    (moveAxle e g b s).pairer = s.pairer ∧ (moveAxle e g b s).weigh = s.weigh ∧ (moveAxle e g b s).temp = s.temp ∧
    (moveAxle e g b s).former = s.former ∧ (moveAxle e g b s).screenOn = s.screenOn ∧
    (moveAxle e g b s).peers = s.peers ∧ (moveAxle e g b s).link = s.link ∧ (moveAxle e g b s).cal = s.cal ∧
    (moveAxle e g b s).counters = s.counters ∧ (moveAxle e g b s).pending = s.pending := by
  simp [moveAxle]

@[simp] theorem removeAxle_frame (e : MergeEntry) (s : State) :
    (removeAxle e s).tick = s.tick ∧ (removeAxle e s).outstanding = s.outstanding ∧ (removeAxle e s).ctl = s.ctl ∧
    (removeAxle e s).straps = s.straps ∧ (removeAxle e s).raised = s.raised ∧ (removeAxle e s).setup = s.setup ∧
    (removeAxle e s).pins = s.pins ∧ (removeAxle e s).det = s.det ∧ (removeAxle e s).pairer = s.pairer ∧
    (removeAxle e s).weigh = s.weigh ∧ (removeAxle e s).temp = s.temp ∧ (removeAxle e s).former = s.former ∧
    (removeAxle e s).screenOn = s.screenOn ∧ (removeAxle e s).peers = s.peers ∧ (removeAxle e s).link = s.link ∧
    (removeAxle e s).cal = s.cal ∧ (removeAxle e s).counters = s.counters ∧ (removeAxle e s).pending = s.pending := by
  simp [removeAxle]

@[simp] theorem endSettling_frame (b : Bool) (s : State) :
    (endSettling b s).tick = s.tick ∧ (endSettling b s).outstanding = s.outstanding ∧
    (endSettling b s).straps = s.straps ∧ (endSettling b s).raised = s.raised ∧ (endSettling b s).setup = s.setup ∧
    (endSettling b s).pins = s.pins ∧ (endSettling b s).det = s.det ∧ (endSettling b s).pairer = s.pairer ∧
    (endSettling b s).weigh = s.weigh ∧ (endSettling b s).temp = s.temp ∧ (endSettling b s).former = s.former ∧
    (endSettling b s).veh = s.veh ∧ (endSettling b s).screenOn = s.screenOn ∧ (endSettling b s).peers = s.peers ∧
    (endSettling b s).link = s.link ∧ (endSettling b s).cal = s.cal ∧ (endSettling b s).counters = s.counters ∧
    (endSettling b s).pending = s.pending := by
  unfold endSettling
  split <;> simp

@[simp] theorem startRun_frame (before s : State) :
    (startRun before s).tick = s.tick ∧ (startRun before s).outstanding = s.outstanding ∧
    (startRun before s).ctl = s.ctl ∧ (startRun before s).straps = s.straps ∧ (startRun before s).raised = s.raised ∧
    (startRun before s).setup = s.setup ∧ (startRun before s).pins = s.pins ∧ (startRun before s).det = s.det ∧
    (startRun before s).pairer = s.pairer ∧ (startRun before s).weigh = s.weigh ∧ (startRun before s).temp = s.temp ∧
    (startRun before s).former = s.former ∧ (startRun before s).screenOn = s.screenOn ∧
    (startRun before s).peers = s.peers ∧ (startRun before s).link = s.link ∧ (startRun before s).cal = s.cal ∧
    (startRun before s).counters = s.counters ∧ (startRun before s).pending = s.pending := by
  unfold startRun
  split <;> simp

@[simp] theorem handPart_frame (w : OwnWheel) (ref : Option Byte) (s : State) :
    (handPart w ref s).tick = s.tick ∧ (handPart w ref s).outstanding = s.outstanding ∧
    (handPart w ref s).ctl = s.ctl ∧ (handPart w ref s).straps = s.straps ∧ (handPart w ref s).setup = s.setup ∧
    (handPart w ref s).pins = s.pins ∧ (handPart w ref s).det = s.det ∧ (handPart w ref s).pairer = s.pairer ∧
    (handPart w ref s).weigh = s.weigh ∧ (handPart w ref s).temp = s.temp ∧ (handPart w ref s).former = s.former ∧
    (handPart w ref s).screenOn = s.screenOn ∧ (handPart w ref s).peers = s.peers ∧ (handPart w ref s).cal = s.cal ∧
    (handPart w ref s).pending = s.pending := by
  simp [handPart]

@[simp] theorem withMerges_frame (s : State) (l : List MergeEntry) :
    (withMerges s l).tick = s.tick ∧ (withMerges s l).outstanding = s.outstanding ∧ (withMerges s l).ctl = s.ctl ∧
    (withMerges s l).straps = s.straps ∧ (withMerges s l).raised = s.raised ∧ (withMerges s l).setup = s.setup ∧
    (withMerges s l).pins = s.pins ∧ (withMerges s l).det = s.det ∧ (withMerges s l).pairer = s.pairer ∧
    (withMerges s l).weigh = s.weigh ∧ (withMerges s l).temp = s.temp ∧ (withMerges s l).veh = s.veh ∧
    (withMerges s l).screenOn = s.screenOn ∧ (withMerges s l).peers = s.peers ∧ (withMerges s l).link = s.link ∧
    (withMerges s l).cal = s.cal ∧ (withMerges s l).counters = s.counters ∧ (withMerges s l).pending = s.pending := by
  simp [withMerges]

@[simp] theorem changeMerge_frame (slot : Nat) (g : MergeEntry → MergeEntry) (s : State) :
    (changeMerge slot g s).tick = s.tick ∧ (changeMerge slot g s).outstanding = s.outstanding ∧
    (changeMerge slot g s).ctl = s.ctl ∧ (changeMerge slot g s).straps = s.straps ∧
    (changeMerge slot g s).raised = s.raised ∧ (changeMerge slot g s).setup = s.setup ∧
    (changeMerge slot g s).pins = s.pins ∧ (changeMerge slot g s).det = s.det ∧
    (changeMerge slot g s).pairer = s.pairer ∧ (changeMerge slot g s).weigh = s.weigh ∧
    (changeMerge slot g s).temp = s.temp ∧ (changeMerge slot g s).veh = s.veh ∧
    (changeMerge slot g s).screenOn = s.screenOn ∧ (changeMerge slot g s).peers = s.peers ∧
    (changeMerge slot g s).link = s.link ∧ (changeMerge slot g s).cal = s.cal ∧
    (changeMerge slot g s).counters = s.counters ∧ (changeMerge slot g s).pending = s.pending := by
  simp [changeMerge]

@[simp] theorem freeMerge_frame (slot : Nat) (s : State) :
    (freeMerge slot s).tick = s.tick ∧ (freeMerge slot s).outstanding = s.outstanding ∧
    (freeMerge slot s).ctl = s.ctl ∧ (freeMerge slot s).straps = s.straps ∧ (freeMerge slot s).raised = s.raised ∧
    (freeMerge slot s).setup = s.setup ∧ (freeMerge slot s).pins = s.pins ∧ (freeMerge slot s).det = s.det ∧
    (freeMerge slot s).pairer = s.pairer ∧ (freeMerge slot s).weigh = s.weigh ∧ (freeMerge slot s).temp = s.temp ∧
    (freeMerge slot s).veh = s.veh ∧ (freeMerge slot s).screenOn = s.screenOn ∧ (freeMerge slot s).peers = s.peers ∧
    (freeMerge slot s).link = s.link ∧ (freeMerge slot s).cal = s.cal ∧ (freeMerge slot s).counters = s.counters ∧
    (freeMerge slot s).pending = s.pending := by
  simp [freeMerge]

@[simp] theorem addMerge_frame (e : MergeEntry) (s : State) :
    (addMerge e s).tick = s.tick ∧ (addMerge e s).outstanding = s.outstanding ∧ (addMerge e s).ctl = s.ctl ∧
    (addMerge e s).straps = s.straps ∧ (addMerge e s).raised = s.raised ∧ (addMerge e s).setup = s.setup ∧
    (addMerge e s).pins = s.pins ∧ (addMerge e s).det = s.det ∧ (addMerge e s).pairer = s.pairer ∧
    (addMerge e s).weigh = s.weigh ∧ (addMerge e s).temp = s.temp ∧ (addMerge e s).veh = s.veh ∧
    (addMerge e s).screenOn = s.screenOn ∧ (addMerge e s).peers = s.peers ∧ (addMerge e s).link = s.link ∧
    (addMerge e s).cal = s.cal ∧ (addMerge e s).counters = s.counters ∧ (addMerge e s).pending = s.pending := by
  simp [addMerge]

@[simp] theorem advanceRef_frame (r : Byte) (s : State) :
    (advanceRef r s).tick = s.tick ∧ (advanceRef r s).outstanding = s.outstanding ∧ (advanceRef r s).ctl = s.ctl ∧
    (advanceRef r s).straps = s.straps ∧ (advanceRef r s).raised = s.raised ∧ (advanceRef r s).setup = s.setup ∧
    (advanceRef r s).pins = s.pins ∧ (advanceRef r s).det = s.det ∧ (advanceRef r s).pairer = s.pairer ∧
    (advanceRef r s).weigh = s.weigh ∧ (advanceRef r s).temp = s.temp ∧ (advanceRef r s).veh = s.veh ∧
    (advanceRef r s).screenOn = s.screenOn ∧ (advanceRef r s).peers = s.peers ∧ (advanceRef r s).link = s.link ∧
    (advanceRef r s).cal = s.cal ∧ (advanceRef r s).counters = s.counters ∧ (advanceRef r s).pending = s.pending := by
  simp [advanceRef]

@[simp] theorem dropHalf_frame (sender ref : Byte) (s : State) :
    (dropHalf sender ref s).tick = s.tick ∧ (dropHalf sender ref s).outstanding = s.outstanding ∧
    (dropHalf sender ref s).ctl = s.ctl ∧ (dropHalf sender ref s).straps = s.straps ∧
    (dropHalf sender ref s).raised = s.raised ∧ (dropHalf sender ref s).setup = s.setup ∧
    (dropHalf sender ref s).pins = s.pins ∧ (dropHalf sender ref s).det = s.det ∧
    (dropHalf sender ref s).pairer = s.pairer ∧ (dropHalf sender ref s).weigh = s.weigh ∧
    (dropHalf sender ref s).temp = s.temp ∧ (dropHalf sender ref s).veh = s.veh ∧
    (dropHalf sender ref s).screenOn = s.screenOn ∧ (dropHalf sender ref s).peers = s.peers ∧
    (dropHalf sender ref s).link = s.link ∧ (dropHalf sender ref s).cal = s.cal ∧
    (dropHalf sender ref s).counters = s.counters ∧ (dropHalf sender ref s).pending = s.pending := by
  simp [dropHalf]

@[simp] theorem giveUpMerge_frame (e : MergeEntry) (s : State) :
    (giveUpMerge e s).tick = s.tick ∧ (giveUpMerge e s).outstanding = s.outstanding ∧ (giveUpMerge e s).ctl = s.ctl ∧
    (giveUpMerge e s).straps = s.straps ∧ (giveUpMerge e s).setup = s.setup ∧ (giveUpMerge e s).pins = s.pins ∧
    (giveUpMerge e s).det = s.det ∧ (giveUpMerge e s).pairer = s.pairer ∧ (giveUpMerge e s).weigh = s.weigh ∧
    (giveUpMerge e s).temp = s.temp ∧ (giveUpMerge e s).screenOn = s.screenOn ∧ (giveUpMerge e s).peers = s.peers ∧
    (giveUpMerge e s).cal = s.cal ∧ (giveUpMerge e s).pending = s.pending := by
  simp [giveUpMerge]

@[simp] theorem takeMerge_frame (e : MergeEntry) (h : PeerHalf) (s : State) :
    (takeMerge e h s).tick = s.tick ∧ (takeMerge e h s).outstanding = s.outstanding ∧ (takeMerge e h s).ctl = s.ctl ∧
    (takeMerge e h s).straps = s.straps ∧ (takeMerge e h s).setup = s.setup ∧ (takeMerge e h s).pins = s.pins ∧
    (takeMerge e h s).det = s.det ∧ (takeMerge e h s).pairer = s.pairer ∧ (takeMerge e h s).weigh = s.weigh ∧
    (takeMerge e h s).temp = s.temp ∧ (takeMerge e h s).screenOn = s.screenOn ∧ (takeMerge e h s).peers = s.peers ∧
    (takeMerge e h s).cal = s.cal ∧ (takeMerge e h s).pending = s.pending := by
  unfold takeMerge
  simp only []
  split <;> simp

@[simp] theorem cederHalf_frame (w : OwnWheel) (s : State) :
    (cederHalf w s).tick = s.tick ∧ (cederHalf w s).outstanding = s.outstanding ∧ (cederHalf w s).ctl = s.ctl ∧
    (cederHalf w s).straps = s.straps ∧ (cederHalf w s).setup = s.setup ∧ (cederHalf w s).pins = s.pins ∧
    (cederHalf w s).det = s.det ∧ (cederHalf w s).pairer = s.pairer ∧ (cederHalf w s).weigh = s.weigh ∧
    (cederHalf w s).temp = s.temp ∧ (cederHalf w s).screenOn = s.screenOn ∧ (cederHalf w s).peers = s.peers ∧
    (cederHalf w s).cal = s.cal ∧ (cederHalf w s).pending = s.pending := by
  unfold cederHalf
  simp only []
  (repeat' split) <;> simp

@[simp] theorem ownerHalf_frame (w : OwnWheel) (s : State) :
    (ownerHalf w s).tick = s.tick ∧ (ownerHalf w s).outstanding = s.outstanding ∧ (ownerHalf w s).ctl = s.ctl ∧
    (ownerHalf w s).straps = s.straps ∧ (ownerHalf w s).setup = s.setup ∧ (ownerHalf w s).pins = s.pins ∧
    (ownerHalf w s).det = s.det ∧ (ownerHalf w s).pairer = s.pairer ∧ (ownerHalf w s).weigh = s.weigh ∧
    (ownerHalf w s).temp = s.temp ∧ (ownerHalf w s).screenOn = s.screenOn ∧ (ownerHalf w s).peers = s.peers ∧
    (ownerHalf w s).cal = s.cal ∧ (ownerHalf w s).pending = s.pending := by
  unfold ownerHalf
  simp only []
  (repeat' split) <;> simp

@[simp] theorem takeLone_frame (w : WeighedHit) (s : State) :
    (takeLone w s).tick = s.tick ∧ (takeLone w s).outstanding = s.outstanding ∧ (takeLone w s).ctl = s.ctl ∧
    (takeLone w s).straps = s.straps ∧ (takeLone w s).setup = s.setup ∧ (takeLone w s).pins = s.pins ∧
    (takeLone w s).det = s.det ∧ (takeLone w s).pairer = s.pairer ∧ (takeLone w s).weigh = s.weigh ∧
    (takeLone w s).temp = s.temp ∧ (takeLone w s).screenOn = s.screenOn ∧ (takeLone w s).peers = s.peers ∧
    (takeLone w s).cal = s.cal ∧ (takeLone w s).pending = s.pending := by
  unfold takeLone
  (repeat' split) <;> simp

@[simp] theorem withHolding_frame (s : State) (p : Path) (l : List HeldWheel) :
    (withHolding s p l).tick = s.tick ∧ (withHolding s p l).outstanding = s.outstanding ∧
    (withHolding s p l).ctl = s.ctl ∧ (withHolding s p l).straps = s.straps ∧ (withHolding s p l).raised = s.raised ∧
    (withHolding s p l).setup = s.setup ∧ (withHolding s p l).pins = s.pins ∧ (withHolding s p l).det = s.det ∧
    (withHolding s p l).pairer = s.pairer ∧ (withHolding s p l).weigh = s.weigh ∧ (withHolding s p l).temp = s.temp ∧
    (withHolding s p l).veh = s.veh ∧ (withHolding s p l).screenOn = s.screenOn ∧
    (withHolding s p l).peers = s.peers ∧ (withHolding s p l).link = s.link ∧ (withHolding s p l).cal = s.cal ∧
    (withHolding s p l).counters = s.counters ∧ (withHolding s p l).pending = s.pending := by
  simp [withHolding]

@[simp] theorem holdWheel_frame (w : WeighedHit) (s : State) :
    (holdWheel w s).tick = s.tick ∧ (holdWheel w s).outstanding = s.outstanding ∧ (holdWheel w s).ctl = s.ctl ∧
    (holdWheel w s).straps = s.straps ∧ (holdWheel w s).setup = s.setup ∧ (holdWheel w s).pins = s.pins ∧
    (holdWheel w s).det = s.det ∧ (holdWheel w s).pairer = s.pairer ∧ (holdWheel w s).weigh = s.weigh ∧
    (holdWheel w s).temp = s.temp ∧ (holdWheel w s).screenOn = s.screenOn ∧ (holdWheel w s).peers = s.peers ∧
    (holdWheel w s).cal = s.cal ∧ (holdWheel w s).pending = s.pending := by
  unfold holdWheel
  simp only []
  (repeat' split) <;> simp

@[simp] theorem receiveWheel_frame (w : WeighedHit) (s : State) :
    (receiveWheel w s).tick = s.tick ∧ (receiveWheel w s).outstanding = s.outstanding ∧
    (receiveWheel w s).ctl = s.ctl ∧ (receiveWheel w s).straps = s.straps ∧ (receiveWheel w s).setup = s.setup ∧
    (receiveWheel w s).pins = s.pins ∧ (receiveWheel w s).det = s.det ∧ (receiveWheel w s).pairer = s.pairer ∧
    (receiveWheel w s).weigh = s.weigh ∧ (receiveWheel w s).temp = s.temp ∧
    (receiveWheel w s).screenOn = s.screenOn ∧ (receiveWheel w s).peers = s.peers ∧ (receiveWheel w s).cal = s.cal ∧
    (receiveWheel w s).pending = s.pending := by
  unfold receiveWheel
  (repeat' split) <;> simp

end Sys2Proof.Machine
end

