-- ==== Sys2Proof/Laws/Sampling.lean ====
section
/-! SUPPORT. For each operation over the state of the temperature unit, the reports and the path of the samples, the blocks of the
state that it leaves as they are. -/

namespace Sys2Proof.Machine

open Sys2Proof

@[simp] theorem rechoose_frame (s : State) :
    (rechoose s).tick = s.tick ∧ (rechoose s).outstanding = s.outstanding ∧ (rechoose s).ctl = s.ctl ∧
    (rechoose s).straps = s.straps ∧ (rechoose s).raised = s.raised ∧ (rechoose s).setup = s.setup ∧
    (rechoose s).pins = s.pins ∧ (rechoose s).det = s.det ∧ (rechoose s).pairer = s.pairer ∧
    (rechoose s).weigh = s.weigh ∧ (rechoose s).former = s.former ∧ (rechoose s).veh = s.veh ∧
    (rechoose s).screenOn = s.screenOn ∧ (rechoose s).peers = s.peers ∧ (rechoose s).link = s.link ∧
    (rechoose s).cal = s.cal ∧ (rechoose s).counters = s.counters ∧ (rechoose s).pending = s.pending := by
  simp [rechoose]

@[simp] theorem changeProbe_frame (i : ProbeIx) (g : Probe → Probe) (s : State) :
    (changeProbe i g s).tick = s.tick ∧ (changeProbe i g s).outstanding = s.outstanding ∧
    (changeProbe i g s).ctl = s.ctl ∧ (changeProbe i g s).straps = s.straps ∧ (changeProbe i g s).raised = s.raised ∧
    (changeProbe i g s).setup = s.setup ∧ (changeProbe i g s).pins = s.pins ∧ (changeProbe i g s).det = s.det ∧
    (changeProbe i g s).pairer = s.pairer ∧ (changeProbe i g s).weigh = s.weigh ∧
    (changeProbe i g s).former = s.former ∧ (changeProbe i g s).veh = s.veh ∧
    (changeProbe i g s).screenOn = s.screenOn ∧ (changeProbe i g s).peers = s.peers ∧
    (changeProbe i g s).link = s.link ∧ (changeProbe i g s).cal = s.cal ∧ (changeProbe i g s).counters = s.counters ∧
    (changeProbe i g s).pending = s.pending := by
  simp [changeProbe]

@[simp] theorem countReading_frame (s : State) :
    (countReading s).tick = s.tick ∧ (countReading s).outstanding = s.outstanding ∧ (countReading s).ctl = s.ctl ∧
    (countReading s).straps = s.straps ∧ (countReading s).raised = s.raised ∧ (countReading s).setup = s.setup ∧
    (countReading s).pins = s.pins ∧ (countReading s).det = s.det ∧ (countReading s).pairer = s.pairer ∧
    (countReading s).weigh = s.weigh ∧ (countReading s).former = s.former ∧ (countReading s).veh = s.veh ∧
    (countReading s).screenOn = s.screenOn ∧ (countReading s).peers = s.peers ∧ (countReading s).link = s.link ∧
    (countReading s).cal = s.cal ∧ (countReading s).counters = s.counters ∧ (countReading s).pending = s.pending := by
  simp [countReading]

@[simp] theorem takeReading_frame (i : ProbeIx) (ok : Bool) (v : Int) (s : State) :
    (takeReading i ok v s).tick = s.tick ∧ (takeReading i ok v s).outstanding = s.outstanding ∧
    (takeReading i ok v s).ctl = s.ctl ∧ (takeReading i ok v s).straps = s.straps ∧
    (takeReading i ok v s).raised = s.raised ∧ (takeReading i ok v s).setup = s.setup ∧
    (takeReading i ok v s).pins = s.pins ∧ (takeReading i ok v s).det = s.det ∧
    (takeReading i ok v s).pairer = s.pairer ∧ (takeReading i ok v s).weigh = s.weigh ∧
    (takeReading i ok v s).former = s.former ∧ (takeReading i ok v s).veh = s.veh ∧
    (takeReading i ok v s).screenOn = s.screenOn ∧ (takeReading i ok v s).peers = s.peers ∧
    (takeReading i ok v s).link = s.link ∧ (takeReading i ok v s).cal = s.cal ∧
    (takeReading i ok v s).counters = s.counters ∧ (takeReading i ok v s).pending = s.pending := by
  unfold takeReading
  split <;> simp

@[simp] theorem resetFigures_frame (s : State) :
    (resetFigures s).tick = s.tick ∧ (resetFigures s).outstanding = s.outstanding ∧ (resetFigures s).ctl = s.ctl ∧
    (resetFigures s).straps = s.straps ∧ (resetFigures s).raised = s.raised ∧ (resetFigures s).setup = s.setup ∧
    (resetFigures s).pins = s.pins ∧ (resetFigures s).det = s.det ∧ (resetFigures s).pairer = s.pairer ∧
    (resetFigures s).weigh = s.weigh ∧ (resetFigures s).former = s.former ∧ (resetFigures s).veh = s.veh ∧
    (resetFigures s).screenOn = s.screenOn ∧ (resetFigures s).peers = s.peers ∧ (resetFigures s).link = s.link ∧
    (resetFigures s).cal = s.cal ∧ (resetFigures s).counters = s.counters ∧ (resetFigures s).pending = s.pending := by
  simp [resetFigures]

@[simp] theorem offerTemperature_frame (s : State) :
    (offerTemperature s).tick = s.tick ∧ (offerTemperature s).outstanding = s.outstanding ∧
    (offerTemperature s).ctl = s.ctl ∧ (offerTemperature s).straps = s.straps ∧
    (offerTemperature s).setup = s.setup ∧ (offerTemperature s).pins = s.pins ∧ (offerTemperature s).det = s.det ∧
    (offerTemperature s).pairer = s.pairer ∧ (offerTemperature s).weigh = s.weigh ∧
    (offerTemperature s).former = s.former ∧ (offerTemperature s).veh = s.veh ∧
    (offerTemperature s).screenOn = s.screenOn ∧ (offerTemperature s).peers = s.peers ∧
    (offerTemperature s).cal = s.cal ∧ (offerTemperature s).pending = s.pending := by
  unfold offerTemperature
  simp only []
  split <;> simp

@[simp] theorem scheduledReport_frame (s : State) :
    (scheduledReport s).tick = s.tick ∧ (scheduledReport s).outstanding = s.outstanding ∧
    (scheduledReport s).straps = s.straps ∧ (scheduledReport s).setup = s.setup ∧ (scheduledReport s).pins = s.pins ∧
    (scheduledReport s).det = s.det ∧ (scheduledReport s).pairer = s.pairer ∧ (scheduledReport s).weigh = s.weigh ∧
    (scheduledReport s).former = s.former ∧ (scheduledReport s).veh = s.veh ∧
    (scheduledReport s).screenOn = s.screenOn ∧ (scheduledReport s).peers = s.peers ∧
    (scheduledReport s).cal = s.cal ∧ (scheduledReport s).pending = s.pending := by
  unfold scheduledReport
  (repeat' split) <;> simp

@[simp] theorem laneClearStep_frame (s : State) :
    (laneClearStep s).tick = s.tick ∧ (laneClearStep s).outstanding = s.outstanding ∧ (laneClearStep s).ctl = s.ctl ∧
    (laneClearStep s).straps = s.straps ∧ (laneClearStep s).setup = s.setup ∧ (laneClearStep s).pins = s.pins ∧
    (laneClearStep s).det = s.det ∧ (laneClearStep s).pairer = s.pairer ∧ (laneClearStep s).weigh = s.weigh ∧
    (laneClearStep s).temp = s.temp ∧ (laneClearStep s).former = s.former ∧ (laneClearStep s).screenOn = s.screenOn ∧
    (laneClearStep s).peers = s.peers ∧ (laneClearStep s).cal = s.cal ∧ (laneClearStep s).pending = s.pending := by
  unfold laneClearStep
  simp only []
  split <;> simp

@[simp] theorem formBeacon_frame (s : State) :
    (formBeacon s).tick = s.tick ∧ (formBeacon s).outstanding = s.outstanding ∧ (formBeacon s).straps = s.straps ∧
    (formBeacon s).setup = s.setup ∧ (formBeacon s).pins = s.pins ∧ (formBeacon s).det = s.det ∧
    (formBeacon s).pairer = s.pairer ∧ (formBeacon s).weigh = s.weigh ∧ (formBeacon s).former = s.former ∧
    (formBeacon s).screenOn = s.screenOn ∧ (formBeacon s).peers = s.peers ∧ (formBeacon s).cal = s.cal ∧
    (formBeacon s).pending = s.pending := by
  simp [formBeacon]

@[simp] theorem endSelftest_frame (b : Bool) (s : State) :
    (endSelftest b s).tick = s.tick ∧ (endSelftest b s).outstanding = s.outstanding ∧
    (endSelftest b s).straps = s.straps ∧ (endSelftest b s).setup = s.setup ∧ (endSelftest b s).pins = s.pins ∧
    (endSelftest b s).det = s.det ∧ (endSelftest b s).pairer = s.pairer ∧ (endSelftest b s).weigh = s.weigh ∧
    (endSelftest b s).former = s.former ∧ (endSelftest b s).screenOn = s.screenOn ∧
    (endSelftest b s).peers = s.peers ∧ (endSelftest b s).cal = s.cal ∧ (endSelftest b s).pending = s.pending := by
  simp [endSelftest]

@[simp] theorem endEvent_frame (before s : State) :
    (endEvent before s).tick = s.tick ∧ (endEvent before s).outstanding = s.outstanding ∧
    (endEvent before s).straps = s.straps ∧ (endEvent before s).raised = s.raised ∧
    (endEvent before s).setup = s.setup ∧ (endEvent before s).pins = s.pins ∧ (endEvent before s).det = s.det ∧
    (endEvent before s).pairer = s.pairer ∧ (endEvent before s).weigh = s.weigh ∧ (endEvent before s).temp = s.temp ∧
    (endEvent before s).former = s.former ∧ (endEvent before s).screenOn = s.screenOn ∧
    (endEvent before s).peers = s.peers ∧ (endEvent before s).link = s.link ∧ (endEvent before s).cal = s.cal ∧
    (endEvent before s).counters = s.counters ∧ (endEvent before s).pending = s.pending := by
  simp [endEvent]

@[simp] theorem beginWeighing_frame (s : State) :
    (beginWeighing s).tick = s.tick ∧ (beginWeighing s).outstanding = s.outstanding ∧ (beginWeighing s).ctl = s.ctl ∧
    (beginWeighing s).straps = s.straps ∧ (beginWeighing s).raised = s.raised ∧ (beginWeighing s).setup = s.setup ∧
    (beginWeighing s).pins = s.pins ∧ (beginWeighing s).det = s.det ∧ (beginWeighing s).pairer = s.pairer ∧
    (beginWeighing s).temp = s.temp ∧ (beginWeighing s).former = s.former ∧ (beginWeighing s).veh = s.veh ∧
    (beginWeighing s).screenOn = s.screenOn ∧ (beginWeighing s).peers = s.peers ∧ (beginWeighing s).link = s.link ∧
    (beginWeighing s).cal = s.cal ∧ (beginWeighing s).counters = s.counters ∧
    (beginWeighing s).pending = s.pending := by
  unfold beginWeighing
  split <;> simp

@[simp] theorem handHit_frame (h : WheelHit) (s : State) :
    (handHit h s).tick = s.tick ∧ (handHit h s).outstanding = s.outstanding ∧ (handHit h s).ctl = s.ctl ∧
    (handHit h s).straps = s.straps ∧ (handHit h s).setup = s.setup ∧ (handHit h s).pins = s.pins ∧
    (handHit h s).det = s.det ∧ (handHit h s).pairer = s.pairer ∧ (handHit h s).temp = s.temp ∧
    (handHit h s).screenOn = s.screenOn ∧ (handHit h s).peers = s.peers ∧ (handHit h s).cal = s.cal ∧
    (handHit h s).pending = s.pending := by
  unfold handHit
  split <;> simp

@[simp] theorem withAPending_frame (s : State) (p : Path) (l : List PulseRec) :
    (withAPending s p l).tick = s.tick ∧ (withAPending s p l).outstanding = s.outstanding ∧
    (withAPending s p l).ctl = s.ctl ∧ (withAPending s p l).straps = s.straps ∧
    (withAPending s p l).raised = s.raised ∧ (withAPending s p l).setup = s.setup ∧
    (withAPending s p l).pins = s.pins ∧ (withAPending s p l).det = s.det ∧ (withAPending s p l).weigh = s.weigh ∧
    (withAPending s p l).temp = s.temp ∧ (withAPending s p l).former = s.former ∧ (withAPending s p l).veh = s.veh ∧
    (withAPending s p l).screenOn = s.screenOn ∧ (withAPending s p l).peers = s.peers ∧
    (withAPending s p l).link = s.link ∧ (withAPending s p l).cal = s.cal ∧
    (withAPending s p l).counters = s.counters ∧ (withAPending s p l).pending = s.pending := by
  simp [withAPending]

@[simp] theorem handA_frame (r : PulseRec) (s : State) :
    (handA r s).tick = s.tick ∧ (handA r s).outstanding = s.outstanding ∧ (handA r s).ctl = s.ctl ∧
    (handA r s).straps = s.straps ∧ (handA r s).raised = s.raised ∧ (handA r s).setup = s.setup ∧
    (handA r s).pins = s.pins ∧ (handA r s).det = s.det ∧ (handA r s).weigh = s.weigh ∧ (handA r s).temp = s.temp ∧
    (handA r s).former = s.former ∧ (handA r s).veh = s.veh ∧ (handA r s).screenOn = s.screenOn ∧
    (handA r s).peers = s.peers ∧ (handA r s).link = s.link ∧ (handA r s).cal = s.cal ∧
    (handA r s).pending = s.pending := by
  unfold handA
  simp only []
  split <;> simp

@[simp] theorem handB_frame (r : PulseRec) (s : State) :
    (handB r s).tick = s.tick ∧ (handB r s).outstanding = s.outstanding ∧ (handB r s).ctl = s.ctl ∧
    (handB r s).straps = s.straps ∧ (handB r s).setup = s.setup ∧ (handB r s).pins = s.pins ∧
    (handB r s).det = s.det ∧ (handB r s).temp = s.temp ∧ (handB r s).screenOn = s.screenOn ∧
    (handB r s).peers = s.peers ∧ (handB r s).cal = s.cal ∧ (handB r s).pending = s.pending := by
  unfold handB
  simp only []
  split <;> simp

@[simp] theorem handRecord_frame (r : Option PulseRec) (s : State) :
    (handRecord r s).tick = s.tick ∧ (handRecord r s).outstanding = s.outstanding ∧ (handRecord r s).ctl = s.ctl ∧
    (handRecord r s).straps = s.straps ∧ (handRecord r s).setup = s.setup ∧ (handRecord r s).pins = s.pins ∧
    (handRecord r s).det = s.det ∧ (handRecord r s).temp = s.temp ∧ (handRecord r s).screenOn = s.screenOn ∧
    (handRecord r s).peers = s.peers ∧ (handRecord r s).cal = s.cal ∧ (handRecord r s).pending = s.pending := by
  unfold handRecord
  (repeat' split) <;> simp

@[simp] theorem advanceTick_frame (s : State) :
    (advanceTick s).outstanding = s.outstanding ∧ (advanceTick s).ctl = s.ctl ∧ (advanceTick s).straps = s.straps ∧
    (advanceTick s).raised = s.raised ∧ (advanceTick s).setup = s.setup ∧ (advanceTick s).pins = s.pins ∧
    (advanceTick s).det = s.det ∧ (advanceTick s).pairer = s.pairer ∧ (advanceTick s).weigh = s.weigh ∧
    (advanceTick s).temp = s.temp ∧ (advanceTick s).former = s.former ∧ (advanceTick s).veh = s.veh ∧
    (advanceTick s).screenOn = s.screenOn ∧ (advanceTick s).peers = s.peers ∧ (advanceTick s).cal = s.cal ∧
    (advanceTick s).counters = s.counters ∧ (advanceTick s).pending = s.pending := by
  simp [advanceTick]

@[simp] theorem firstGoodSet_frame (s : State) :
    (firstGoodSet s).tick = s.tick ∧ (firstGoodSet s).outstanding = s.outstanding ∧
    (firstGoodSet s).straps = s.straps ∧ (firstGoodSet s).setup = s.setup ∧ (firstGoodSet s).pins = s.pins ∧
    (firstGoodSet s).det = s.det ∧ (firstGoodSet s).pairer = s.pairer ∧ (firstGoodSet s).weigh = s.weigh ∧
    (firstGoodSet s).former = s.former ∧ (firstGoodSet s).screenOn = s.screenOn ∧ (firstGoodSet s).peers = s.peers ∧
    (firstGoodSet s).cal = s.cal ∧ (firstGoodSet s).pending = s.pending := by
  unfold firstGoodSet
  split <;> simp

@[simp] theorem completeWeighing_frame (w : Weighing) (s : State) :
    (completeWeighing w s).tick = s.tick ∧ (completeWeighing w s).outstanding = s.outstanding ∧
    (completeWeighing w s).ctl = s.ctl ∧ (completeWeighing w s).straps = s.straps ∧
    (completeWeighing w s).setup = s.setup ∧ (completeWeighing w s).pins = s.pins ∧
    (completeWeighing w s).det = s.det ∧ (completeWeighing w s).pairer = s.pairer ∧
    (completeWeighing w s).temp = s.temp ∧ (completeWeighing w s).screenOn = s.screenOn ∧
    (completeWeighing w s).peers = s.peers ∧ (completeWeighing w s).cal = s.cal ∧
    (completeWeighing w s).pending = s.pending := by
  simp [completeWeighing]

/-- Station control after the end of an event: it is unchanged, or SETTLING has ended with every detector settled (R183). -/
theorem endEvent_ctl (before s : State) :
    (endEvent before s).ctl = s.ctl ∨
      (s.ctl.station = .settling ∧ s.det.all settled = true ∧ (endEvent before s).ctl = { s.ctl with station := .run }) := by
  by_cases h : s.ctl.station = .settling ∧ s.det.all settled = true
  · exact .inr ⟨h.1, h.2, by simp [endEvent, endSettling, h]⟩
  · exact .inl (by simp [endEvent, endSettling, h])

/-- An event after which the lane is clear in RUN, and before which it was not so, has set the run count (R101). -/
theorem endEvent_run (before s : State) (h : (endEvent before s).ctl.station = .run)
    (hc : laneClear (endEvent before s) = true) (hb : before.ctl.station ≠ .run ∨ laneClear before = false) :
    (endEvent before s).veh.runCount = (endEvent before s).setup.clearCount := by
  unfold endEvent startRun at *
  generalize endSettling _ _ = z at *
  by_cases h0 : (inRun z && laneClear z && !(inRun before && laneClear before)) = true
  · rw [if_pos h0]; rfl
  · rw [if_neg h0] at h hc ⊢
    refine absurd ?_ h0
    rcases hb with hb | hb <;> simp [inRun, h, hc, hb]

@[simp] theorem takeChannel_frame (t : Tick) (ch : Chan) (x : Sample) (s : State) :
    (takeChannel t ch x s).tick = s.tick ∧ (takeChannel t ch x s).outstanding = s.outstanding ∧
    (takeChannel t ch x s).straps = s.straps ∧ (takeChannel t ch x s).setup = s.setup ∧
    (takeChannel t ch x s).pins = s.pins ∧ (takeChannel t ch x s).temp = s.temp ∧
    (takeChannel t ch x s).screenOn = s.screenOn ∧ (takeChannel t ch x s).peers = s.peers ∧
    (takeChannel t ch x s).cal = s.cal ∧ (takeChannel t ch x s).pending = s.pending := by
  simp [takeChannel]

@[simp] theorem takeChannel_det (t : Tick) (ch : Chan) (x : Sample) (s : State) :
    (takeChannel t ch x s).det = s.det.set ch (takeSample s.setup ch t x (s.det.get ch)).1 := by
  simp [takeChannel]

/-- Station control after the sample of one channel. -/
theorem takeChannel_ctl (t : Tick) (ch : Chan) (x : Sample) (s : State) :
    (takeChannel t ch x s).ctl = s.ctl ∨
      (s.ctl.station = .settling ∧ (takeChannel t ch x s).det.all settled = true ∧
        (takeChannel t ch x s).ctl = { s.ctl with station := .run }) := by
  simpa [takeChannel] using
    endEvent_ctl s
      (handRecord (takeSample s.setup ch t x (s.det.get ch)).2
        (s.withDet (s.det.set ch (takeSample s.setup ch t x (s.det.get ch)).1)))

@[simp] theorem takeSet_frame (t : Tick) (x : Quad Sample) (s : State) :
    (takeSet t x s).tick = s.tick ∧ (takeSet t x s).outstanding = s.outstanding ∧
    (takeSet t x s).straps = s.straps ∧ (takeSet t x s).setup = s.setup ∧ (takeSet t x s).pins = s.pins ∧
    (takeSet t x s).temp = s.temp ∧ (takeSet t x s).screenOn = s.screenOn ∧ (takeSet t x s).peers = s.peers ∧
    (takeSet t x s).cal = s.cal ∧ (takeSet t x s).pending = s.pending := by
  simp [takeSet]

/-- Each detector takes the sample of its channel, whatever the order of the four events. -/
@[simp] theorem takeSet_det (t : Tick) (x : Quad Sample) (s : State) :
    (takeSet t x s).det =
      ⟨(takeSample s.setup .al t x.al s.det.al).1, (takeSample s.setup .ar t x.ar s.det.ar).1,
       (takeSample s.setup .bl t x.bl s.det.bl).1, (takeSample s.setup .br t x.br s.det.br).1⟩ := by
  simp [takeSet, Quad.set, Quad.get]

@[simp] theorem strobeEffect_frame (s : State) :
    (strobeEffect s).straps = s.straps ∧ (strobeEffect s).setup = s.setup ∧
    (strobeEffect s).pins = s.pins ∧ (strobeEffect s).temp = s.temp ∧ (strobeEffect s).screenOn = s.screenOn ∧
    (strobeEffect s).peers = s.peers ∧ (strobeEffect s).cal = s.cal ∧ (strobeEffect s).pending = s.pending := by
  unfold strobeEffect
  simp only []
  split <;> simp

end Sys2Proof.Machine
end

