-- ==== Sys2Proof/Laws/Commands.lean ====
section
/-! SUPPORT. For each operation over the state of the merge frames, the presence line, the peer table, the link and the calibration memory, the blocks of the
state that it leaves as they are. -/

namespace Sys2Proof.Machine

open Sys2Proof

@[simp] theorem endTaken_frame (e : MergeEntry) (g : Axle → Axle) (s : State) :
    (endTaken e g s).tick = s.tick ∧ (endTaken e g s).outstanding = s.outstanding ∧ (endTaken e g s).ctl = s.ctl ∧
    (endTaken e g s).straps = s.straps ∧ (endTaken e g s).setup = s.setup ∧ (endTaken e g s).pins = s.pins ∧
    (endTaken e g s).det = s.det ∧ (endTaken e g s).pairer = s.pairer ∧ (endTaken e g s).weigh = s.weigh ∧
    (endTaken e g s).temp = s.temp ∧ (endTaken e g s).screenOn = s.screenOn ∧ (endTaken e g s).peers = s.peers ∧
    (endTaken e g s).cal = s.cal ∧ (endTaken e g s).pending = s.pending := by
  simp [endTaken]

@[simp] theorem enterHalf_frame (h : PeerHalf) (s : State) :
    (enterHalf h s).tick = s.tick ∧ (enterHalf h s).outstanding = s.outstanding ∧ (enterHalf h s).ctl = s.ctl ∧
    (enterHalf h s).straps = s.straps ∧ (enterHalf h s).raised = s.raised ∧ (enterHalf h s).setup = s.setup ∧
    (enterHalf h s).pins = s.pins ∧ (enterHalf h s).det = s.det ∧ (enterHalf h s).pairer = s.pairer ∧
    (enterHalf h s).weigh = s.weigh ∧ (enterHalf h s).temp = s.temp ∧ (enterHalf h s).veh = s.veh ∧
    (enterHalf h s).screenOn = s.screenOn ∧ (enterHalf h s).peers = s.peers ∧ (enterHalf h s).link = s.link ∧
    (enterHalf h s).cal = s.cal ∧ (enterHalf h s).pending = s.pending := by
  unfold enterHalf
  simp only []
  (repeat' split) <;> simp

@[simp] theorem takeHalfAxle_frame (f : RxFrame) (s : State) :
    (takeHalfAxle f s).tick = s.tick ∧ (takeHalfAxle f s).outstanding = s.outstanding ∧
    (takeHalfAxle f s).ctl = s.ctl ∧ (takeHalfAxle f s).straps = s.straps ∧ (takeHalfAxle f s).setup = s.setup ∧
    (takeHalfAxle f s).pins = s.pins ∧ (takeHalfAxle f s).det = s.det ∧ (takeHalfAxle f s).pairer = s.pairer ∧
    (takeHalfAxle f s).weigh = s.weigh ∧ (takeHalfAxle f s).temp = s.temp ∧
    (takeHalfAxle f s).screenOn = s.screenOn ∧ (takeHalfAxle f s).peers = s.peers ∧ (takeHalfAxle f s).cal = s.cal ∧
    (takeHalfAxle f s).pending = s.pending := by
  unfold takeHalfAxle
  simp only []
  (repeat' split) <;> simp

@[simp] theorem sendMerge_frame (k : FrameKind) (dst r : Byte) (s : State) :
    (sendMerge k dst r s).tick = s.tick ∧ (sendMerge k dst r s).outstanding = s.outstanding ∧
    (sendMerge k dst r s).ctl = s.ctl ∧ (sendMerge k dst r s).straps = s.straps ∧
    (sendMerge k dst r s).setup = s.setup ∧ (sendMerge k dst r s).pins = s.pins ∧ (sendMerge k dst r s).det = s.det ∧
    (sendMerge k dst r s).pairer = s.pairer ∧ (sendMerge k dst r s).weigh = s.weigh ∧
    (sendMerge k dst r s).temp = s.temp ∧ (sendMerge k dst r s).former = s.former ∧
    (sendMerge k dst r s).screenOn = s.screenOn ∧ (sendMerge k dst r s).peers = s.peers ∧
    (sendMerge k dst r s).cal = s.cal ∧ (sendMerge k dst r s).pending = s.pending := by
  simp [sendMerge]

@[simp] theorem takeTake_frame (r partner : Byte) (s : State) :
    (takeTake r partner s).tick = s.tick ∧ (takeTake r partner s).outstanding = s.outstanding ∧
    (takeTake r partner s).ctl = s.ctl ∧ (takeTake r partner s).straps = s.straps ∧
    (takeTake r partner s).setup = s.setup ∧ (takeTake r partner s).pins = s.pins ∧
    (takeTake r partner s).det = s.det ∧ (takeTake r partner s).pairer = s.pairer ∧
    (takeTake r partner s).weigh = s.weigh ∧ (takeTake r partner s).temp = s.temp ∧
    (takeTake r partner s).screenOn = s.screenOn ∧ (takeTake r partner s).peers = s.peers ∧
    (takeTake r partner s).cal = s.cal ∧ (takeTake r partner s).pending = s.pending := by
  unfold takeTake
  (repeat' split) <;> simp

@[simp] theorem takeCede_frame (r partner : Byte) (s : State) :
    (takeCede r partner s).tick = s.tick ∧ (takeCede r partner s).outstanding = s.outstanding ∧
    (takeCede r partner s).ctl = s.ctl ∧ (takeCede r partner s).straps = s.straps ∧
    (takeCede r partner s).setup = s.setup ∧ (takeCede r partner s).pins = s.pins ∧
    (takeCede r partner s).det = s.det ∧ (takeCede r partner s).pairer = s.pairer ∧
    (takeCede r partner s).weigh = s.weigh ∧ (takeCede r partner s).temp = s.temp ∧
    (takeCede r partner s).screenOn = s.screenOn ∧ (takeCede r partner s).peers = s.peers ∧
    (takeCede r partner s).cal = s.cal ∧ (takeCede r partner s).pending = s.pending := by
  unfold takeCede
  split <;> simp

@[simp] theorem takeRefuse_frame (r partner : Byte) (s : State) :
    (takeRefuse r partner s).tick = s.tick ∧ (takeRefuse r partner s).outstanding = s.outstanding ∧
    (takeRefuse r partner s).ctl = s.ctl ∧ (takeRefuse r partner s).straps = s.straps ∧
    (takeRefuse r partner s).setup = s.setup ∧ (takeRefuse r partner s).pins = s.pins ∧
    (takeRefuse r partner s).det = s.det ∧ (takeRefuse r partner s).pairer = s.pairer ∧
    (takeRefuse r partner s).weigh = s.weigh ∧ (takeRefuse r partner s).temp = s.temp ∧
    (takeRefuse r partner s).screenOn = s.screenOn ∧ (takeRefuse r partner s).peers = s.peers ∧
    (takeRefuse r partner s).cal = s.cal ∧ (takeRefuse r partner s).pending = s.pending := by
  unfold takeRefuse
  split <;> simp

@[simp] theorem withPresence_frame (s : State) (p : Presence) :
    (withPresence s p).tick = s.tick ∧ (withPresence s p).outstanding = s.outstanding ∧
    (withPresence s p).ctl = s.ctl ∧ (withPresence s p).straps = s.straps ∧ (withPresence s p).raised = s.raised ∧
    (withPresence s p).setup = s.setup ∧ (withPresence s p).pins = s.pins ∧ (withPresence s p).det = s.det ∧
    (withPresence s p).pairer = s.pairer ∧ (withPresence s p).weigh = s.weigh ∧ (withPresence s p).temp = s.temp ∧
    (withPresence s p).former = s.former ∧ (withPresence s p).screenOn = s.screenOn ∧
    (withPresence s p).peers = s.peers ∧ (withPresence s p).link = s.link ∧ (withPresence s p).cal = s.cal ∧
    (withPresence s p).counters = s.counters ∧ (withPresence s p).pending = s.pending := by
  simp [withPresence]

@[simp] theorem presenceChange_frame (level : LineLevel) (s : State) :
    (presenceChange level s).tick = s.tick ∧ (presenceChange level s).outstanding = s.outstanding ∧
    (presenceChange level s).ctl = s.ctl ∧ (presenceChange level s).straps = s.straps ∧
    (presenceChange level s).raised = s.raised ∧ (presenceChange level s).setup = s.setup ∧
    (presenceChange level s).pins = s.pins ∧ (presenceChange level s).det = s.det ∧
    (presenceChange level s).pairer = s.pairer ∧ (presenceChange level s).weigh = s.weigh ∧
    (presenceChange level s).temp = s.temp ∧ (presenceChange level s).former = s.former ∧
    (presenceChange level s).screenOn = s.screenOn ∧ (presenceChange level s).peers = s.peers ∧
    (presenceChange level s).link = s.link ∧ (presenceChange level s).cal = s.cal ∧
    (presenceChange level s).counters = s.counters ∧ (presenceChange level s).pending = s.pending := by
  unfold presenceChange
  simp only []
  (repeat' split) <;> simp

@[simp] theorem confirmVacancy_frame (s : State) :
    (confirmVacancy s).tick = s.tick ∧ (confirmVacancy s).outstanding = s.outstanding ∧
    (confirmVacancy s).ctl = s.ctl ∧ (confirmVacancy s).straps = s.straps ∧ (confirmVacancy s).setup = s.setup ∧
    (confirmVacancy s).pins = s.pins ∧ (confirmVacancy s).det = s.det ∧ (confirmVacancy s).pairer = s.pairer ∧
    (confirmVacancy s).weigh = s.weigh ∧ (confirmVacancy s).temp = s.temp ∧ (confirmVacancy s).former = s.former ∧
    (confirmVacancy s).screenOn = s.screenOn ∧ (confirmVacancy s).peers = s.peers ∧ (confirmVacancy s).cal = s.cal ∧
    (confirmVacancy s).pending = s.pending := by
  unfold confirmVacancy
  split <;> simp

@[simp] theorem takeBeacon_frame (f : RxFrame) (s : State) :
    (takeBeacon f s).tick = s.tick ∧ (takeBeacon f s).outstanding = s.outstanding ∧ (takeBeacon f s).ctl = s.ctl ∧
    (takeBeacon f s).straps = s.straps ∧ (takeBeacon f s).setup = s.setup ∧ (takeBeacon f s).pins = s.pins ∧
    (takeBeacon f s).det = s.det ∧ (takeBeacon f s).pairer = s.pairer ∧ (takeBeacon f s).weigh = s.weigh ∧
    (takeBeacon f s).temp = s.temp ∧ (takeBeacon f s).former = s.former ∧ (takeBeacon f s).veh = s.veh ∧
    (takeBeacon f s).screenOn = s.screenOn ∧ (takeBeacon f s).cal = s.cal ∧ (takeBeacon f s).counters = s.counters ∧
    (takeBeacon f s).pending = s.pending := by
  unfold takeBeacon
  (repeat' split) <;> simp

@[simp] theorem withRxPath_frame (s : State) (p : RxPath) :
    (withRxPath s p).tick = s.tick ∧ (withRxPath s p).outstanding = s.outstanding ∧ (withRxPath s p).ctl = s.ctl ∧
    (withRxPath s p).straps = s.straps ∧ (withRxPath s p).raised = s.raised ∧ (withRxPath s p).setup = s.setup ∧
    (withRxPath s p).pins = s.pins ∧ (withRxPath s p).det = s.det ∧ (withRxPath s p).pairer = s.pairer ∧
    (withRxPath s p).weigh = s.weigh ∧ (withRxPath s p).temp = s.temp ∧ (withRxPath s p).former = s.former ∧
    (withRxPath s p).veh = s.veh ∧ (withRxPath s p).screenOn = s.screenOn ∧ (withRxPath s p).peers = s.peers ∧
    (withRxPath s p).cal = s.cal ∧ (withRxPath s p).counters = s.counters ∧ (withRxPath s p).pending = s.pending := by
  simp [withRxPath]

@[simp] theorem breakFrame_frame (c : BreakCause) (s : State) :
    (breakFrame c s).tick = s.tick ∧ (breakFrame c s).outstanding = s.outstanding ∧ (breakFrame c s).ctl = s.ctl ∧
    (breakFrame c s).straps = s.straps ∧ (breakFrame c s).raised = s.raised ∧ (breakFrame c s).setup = s.setup ∧
    (breakFrame c s).pins = s.pins ∧ (breakFrame c s).det = s.det ∧ (breakFrame c s).pairer = s.pairer ∧
    (breakFrame c s).weigh = s.weigh ∧ (breakFrame c s).temp = s.temp ∧ (breakFrame c s).former = s.former ∧
    (breakFrame c s).veh = s.veh ∧ (breakFrame c s).screenOn = s.screenOn ∧ (breakFrame c s).peers = s.peers ∧
    (breakFrame c s).cal = s.cal ∧ (breakFrame c s).pending = s.pending := by
  simp [breakFrame]

@[simp] theorem enqueueRx_frame (f : RxFrame) (s : State) :
    (enqueueRx f s).tick = s.tick ∧ (enqueueRx f s).outstanding = s.outstanding ∧ (enqueueRx f s).ctl = s.ctl ∧
    (enqueueRx f s).straps = s.straps ∧ (enqueueRx f s).setup = s.setup ∧ (enqueueRx f s).pins = s.pins ∧
    (enqueueRx f s).det = s.det ∧ (enqueueRx f s).pairer = s.pairer ∧ (enqueueRx f s).weigh = s.weigh ∧
    (enqueueRx f s).temp = s.temp ∧ (enqueueRx f s).former = s.former ∧ (enqueueRx f s).veh = s.veh ∧
    (enqueueRx f s).screenOn = s.screenOn ∧ (enqueueRx f s).peers = s.peers ∧ (enqueueRx f s).cal = s.cal ∧
    (enqueueRx f s).pending = s.pending := by
  unfold enqueueRx
  split <;> simp

@[simp] theorem judgeFrame_frame (f : RxFrame) (crc : BitVec 16) (s : State) :
    (judgeFrame f crc s).tick = s.tick ∧ (judgeFrame f crc s).outstanding = s.outstanding ∧
    (judgeFrame f crc s).ctl = s.ctl ∧ (judgeFrame f crc s).straps = s.straps ∧
    (judgeFrame f crc s).setup = s.setup ∧ (judgeFrame f crc s).pins = s.pins ∧ (judgeFrame f crc s).det = s.det ∧
    (judgeFrame f crc s).pairer = s.pairer ∧ (judgeFrame f crc s).weigh = s.weigh ∧
    (judgeFrame f crc s).temp = s.temp ∧ (judgeFrame f crc s).former = s.former ∧ (judgeFrame f crc s).veh = s.veh ∧
    (judgeFrame f crc s).screenOn = s.screenOn ∧ (judgeFrame f crc s).peers = s.peers ∧
    (judgeFrame f crc s).cal = s.cal ∧ (judgeFrame f crc s).pending = s.pending := by
  unfold judgeFrame
  (repeat' split) <;> simp

@[simp] theorem startCandidate_frame (s : State) :
    (startCandidate s).tick = s.tick ∧ (startCandidate s).outstanding = s.outstanding ∧
    (startCandidate s).ctl = s.ctl ∧ (startCandidate s).straps = s.straps ∧ (startCandidate s).raised = s.raised ∧
    (startCandidate s).setup = s.setup ∧ (startCandidate s).pins = s.pins ∧ (startCandidate s).det = s.det ∧
    (startCandidate s).pairer = s.pairer ∧ (startCandidate s).weigh = s.weigh ∧ (startCandidate s).temp = s.temp ∧
    (startCandidate s).former = s.former ∧ (startCandidate s).veh = s.veh ∧
    (startCandidate s).screenOn = s.screenOn ∧ (startCandidate s).peers = s.peers ∧ (startCandidate s).cal = s.cal ∧
    (startCandidate s).counters = s.counters ∧ (startCandidate s).pending = s.pending := by
  unfold startCandidate
  simp only []
  (repeat' split) <;> simp

@[simp] theorem removeSending_frame (s : State) :
    (removeSending s).tick = s.tick ∧ (removeSending s).outstanding = s.outstanding ∧ (removeSending s).ctl = s.ctl ∧
    (removeSending s).straps = s.straps ∧ (removeSending s).raised = s.raised ∧ (removeSending s).setup = s.setup ∧
    (removeSending s).pins = s.pins ∧ (removeSending s).det = s.det ∧ (removeSending s).pairer = s.pairer ∧
    (removeSending s).weigh = s.weigh ∧ (removeSending s).temp = s.temp ∧ (removeSending s).former = s.former ∧
    (removeSending s).veh = s.veh ∧ (removeSending s).screenOn = s.screenOn ∧ (removeSending s).peers = s.peers ∧
    (removeSending s).cal = s.cal ∧ (removeSending s).counters = s.counters ∧
    (removeSending s).pending = s.pending := by
  unfold removeSending
  split <;> simp

@[simp] theorem useFreedPlace_frame (b : Bool) (s : State) :
    (useFreedPlace b s).tick = s.tick ∧ (useFreedPlace b s).outstanding = s.outstanding ∧
    (useFreedPlace b s).ctl = s.ctl ∧ (useFreedPlace b s).straps = s.straps ∧ (useFreedPlace b s).raised = s.raised ∧
    (useFreedPlace b s).setup = s.setup ∧ (useFreedPlace b s).pins = s.pins ∧ (useFreedPlace b s).det = s.det ∧
    (useFreedPlace b s).pairer = s.pairer ∧ (useFreedPlace b s).weigh = s.weigh ∧ (useFreedPlace b s).temp = s.temp ∧
    (useFreedPlace b s).former = s.former ∧ (useFreedPlace b s).screenOn = s.screenOn ∧
    (useFreedPlace b s).peers = s.peers ∧ (useFreedPlace b s).cal = s.cal ∧
    (useFreedPlace b s).counters = s.counters ∧ (useFreedPlace b s).pending = s.pending := by
  unfold useFreedPlace
  split <;> simp

@[simp] theorem changeSending_frame (g : TxFrame → TxFrame) (s : State) :
    (changeSending g s).tick = s.tick ∧ (changeSending g s).outstanding = s.outstanding ∧
    (changeSending g s).ctl = s.ctl ∧ (changeSending g s).straps = s.straps ∧ (changeSending g s).raised = s.raised ∧
    (changeSending g s).setup = s.setup ∧ (changeSending g s).pins = s.pins ∧ (changeSending g s).det = s.det ∧
    (changeSending g s).pairer = s.pairer ∧ (changeSending g s).weigh = s.weigh ∧ (changeSending g s).temp = s.temp ∧
    (changeSending g s).former = s.former ∧ (changeSending g s).veh = s.veh ∧
    (changeSending g s).screenOn = s.screenOn ∧ (changeSending g s).peers = s.peers ∧
    (changeSending g s).cal = s.cal ∧ (changeSending g s).counters = s.counters ∧
    (changeSending g s).pending = s.pending := by
  unfold changeSending
  split <;> simp

@[simp] theorem abandonFrame_frame (f : TxFrame) (s : State) :
    (abandonFrame f s).tick = s.tick ∧ (abandonFrame f s).outstanding = s.outstanding ∧
    (abandonFrame f s).ctl = s.ctl ∧ (abandonFrame f s).straps = s.straps ∧ (abandonFrame f s).setup = s.setup ∧
    (abandonFrame f s).pins = s.pins ∧ (abandonFrame f s).det = s.det ∧ (abandonFrame f s).pairer = s.pairer ∧
    (abandonFrame f s).weigh = s.weigh ∧ (abandonFrame f s).temp = s.temp ∧ (abandonFrame f s).former = s.former ∧
    (abandonFrame f s).screenOn = s.screenOn ∧ (abandonFrame f s).peers = s.peers ∧ (abandonFrame f s).cal = s.cal ∧
    (abandonFrame f s).pending = s.pending := by
  simp [abandonFrame]

@[simp] theorem keepCollided_frame (f : TxFrame) (s : State) :
    (keepCollided f s).tick = s.tick ∧ (keepCollided f s).outstanding = s.outstanding ∧
    (keepCollided f s).ctl = s.ctl ∧ (keepCollided f s).straps = s.straps ∧ (keepCollided f s).raised = s.raised ∧
    (keepCollided f s).setup = s.setup ∧ (keepCollided f s).pins = s.pins ∧ (keepCollided f s).det = s.det ∧
    (keepCollided f s).pairer = s.pairer ∧ (keepCollided f s).weigh = s.weigh ∧ (keepCollided f s).temp = s.temp ∧
    (keepCollided f s).former = s.former ∧ (keepCollided f s).screenOn = s.screenOn ∧
    (keepCollided f s).peers = s.peers ∧ (keepCollided f s).cal = s.cal ∧ (keepCollided f s).counters = s.counters ∧
    (keepCollided f s).pending = s.pending := by
  unfold keepCollided
  simp only []
  split <;> simp

@[simp] theorem clearNotices_frame (l : List Notice) (s : State) :
    (clearNotices l s).tick = s.tick ∧ (clearNotices l s).outstanding = s.outstanding ∧
    (clearNotices l s).ctl = s.ctl ∧ (clearNotices l s).straps = s.straps ∧ (clearNotices l s).setup = s.setup ∧
    (clearNotices l s).pins = s.pins ∧ (clearNotices l s).det = s.det ∧ (clearNotices l s).pairer = s.pairer ∧
    (clearNotices l s).weigh = s.weigh ∧ (clearNotices l s).temp = s.temp ∧ (clearNotices l s).former = s.former ∧
    (clearNotices l s).veh = s.veh ∧ (clearNotices l s).screenOn = s.screenOn ∧ (clearNotices l s).peers = s.peers ∧
    (clearNotices l s).link = s.link ∧ (clearNotices l s).cal = s.cal ∧ (clearNotices l s).counters = s.counters ∧
    (clearNotices l s).pending = s.pending := by
  simp [clearNotices]

@[simp] theorem vehicleSent_frame (f : TxFrame) (s : State) :
    (vehicleSent f s).tick = s.tick ∧ (vehicleSent f s).outstanding = s.outstanding ∧ (vehicleSent f s).ctl = s.ctl ∧
    (vehicleSent f s).straps = s.straps ∧ (vehicleSent f s).raised = s.raised ∧ (vehicleSent f s).setup = s.setup ∧
    (vehicleSent f s).pins = s.pins ∧ (vehicleSent f s).det = s.det ∧ (vehicleSent f s).pairer = s.pairer ∧
    (vehicleSent f s).weigh = s.weigh ∧ (vehicleSent f s).temp = s.temp ∧ (vehicleSent f s).former = s.former ∧
    (vehicleSent f s).screenOn = s.screenOn ∧ (vehicleSent f s).peers = s.peers ∧ (vehicleSent f s).link = s.link ∧
    (vehicleSent f s).cal = s.cal ∧ (vehicleSent f s).pending = s.pending := by
  unfold vehicleSent
  split <;> simp

@[simp] theorem completeFrame_frame (f : TxFrame) (s : State) :
    (completeFrame f s).tick = s.tick ∧ (completeFrame f s).outstanding = s.outstanding ∧
    (completeFrame f s).ctl = s.ctl ∧ (completeFrame f s).straps = s.straps ∧ (completeFrame f s).setup = s.setup ∧
    (completeFrame f s).pins = s.pins ∧ (completeFrame f s).det = s.det ∧ (completeFrame f s).pairer = s.pairer ∧
    (completeFrame f s).weigh = s.weigh ∧ (completeFrame f s).temp = s.temp ∧ (completeFrame f s).former = s.former ∧
    (completeFrame f s).screenOn = s.screenOn ∧ (completeFrame f s).peers = s.peers ∧
    (completeFrame f s).cal = s.cal ∧ (completeFrame f s).pending = s.pending := by
  simp [completeFrame]

@[simp] theorem completeChange_frame (kind : Byte) (t : Nat) (c : Change) (src : Byte) (s : State) :
    (completeChange kind t c src s).tick = s.tick ∧ (completeChange kind t c src s).outstanding = s.outstanding ∧
    (completeChange kind t c src s).ctl = s.ctl ∧ (completeChange kind t c src s).straps = s.straps ∧
    (completeChange kind t c src s).setup = s.setup ∧ (completeChange kind t c src s).pins = s.pins ∧
    (completeChange kind t c src s).det = s.det ∧ (completeChange kind t c src s).pairer = s.pairer ∧
    (completeChange kind t c src s).weigh = s.weigh ∧ (completeChange kind t c src s).temp = s.temp ∧
    (completeChange kind t c src s).former = s.former ∧ (completeChange kind t c src s).veh = s.veh ∧
    (completeChange kind t c src s).screenOn = s.screenOn ∧ (completeChange kind t c src s).peers = s.peers ∧
    (completeChange kind t c src s).pending = s.pending := by
  simp [completeChange]

@[simp] theorem beginChange_frame (t : Nat) (c : Change) (src : Byte) (s : State) :
    (beginChange t c src s).tick = s.tick ∧ (beginChange t c src s).outstanding = s.outstanding ∧
    (beginChange t c src s).ctl = s.ctl ∧ (beginChange t c src s).straps = s.straps ∧
    (beginChange t c src s).raised = s.raised ∧ (beginChange t c src s).setup = s.setup ∧
    (beginChange t c src s).pins = s.pins ∧ (beginChange t c src s).det = s.det ∧
    (beginChange t c src s).pairer = s.pairer ∧ (beginChange t c src s).weigh = s.weigh ∧
    (beginChange t c src s).temp = s.temp ∧ (beginChange t c src s).former = s.former ∧
    (beginChange t c src s).veh = s.veh ∧ (beginChange t c src s).screenOn = s.screenOn ∧
    (beginChange t c src s).peers = s.peers ∧ (beginChange t c src s).link = s.link ∧
    (beginChange t c src s).counters = s.counters ∧ (beginChange t c src s).pending = s.pending := by
  simp [beginChange]

@[simp] theorem tableWrite_frame (f : RxFrame) (t i : Nat) (e : List Byte) (s : State) :
    (tableWrite f t i e s).tick = s.tick ∧ (tableWrite f t i e s).outstanding = s.outstanding ∧
    (tableWrite f t i e s).ctl = s.ctl ∧ (tableWrite f t i e s).straps = s.straps ∧
    (tableWrite f t i e s).setup = s.setup ∧ (tableWrite f t i e s).pins = s.pins ∧
    (tableWrite f t i e s).det = s.det ∧ (tableWrite f t i e s).pairer = s.pairer ∧
    (tableWrite f t i e s).weigh = s.weigh ∧ (tableWrite f t i e s).temp = s.temp ∧
    (tableWrite f t i e s).former = s.former ∧ (tableWrite f t i e s).veh = s.veh ∧
    (tableWrite f t i e s).screenOn = s.screenOn ∧ (tableWrite f t i e s).peers = s.peers ∧
    (tableWrite f t i e s).pending = s.pending := by
  unfold tableWrite
  split <;> simp

@[simp] theorem tableCut_frame (f : RxFrame) (t n : Nat) (s : State) :
    (tableCut f t n s).tick = s.tick ∧ (tableCut f t n s).outstanding = s.outstanding ∧
    (tableCut f t n s).ctl = s.ctl ∧ (tableCut f t n s).straps = s.straps ∧ (tableCut f t n s).setup = s.setup ∧
    (tableCut f t n s).pins = s.pins ∧ (tableCut f t n s).det = s.det ∧ (tableCut f t n s).pairer = s.pairer ∧
    (tableCut f t n s).weigh = s.weigh ∧ (tableCut f t n s).temp = s.temp ∧ (tableCut f t n s).former = s.former ∧
    (tableCut f t n s).veh = s.veh ∧ (tableCut f t n s).screenOn = s.screenOn ∧ (tableCut f t n s).peers = s.peers ∧
    (tableCut f t n s).pending = s.pending := by
  unfold tableCut
  split <;> simp

@[simp] theorem offerAll_frame (l : List TxFrame) (s : State) :
    (offerAll l s).tick = s.tick ∧ (offerAll l s).outstanding = s.outstanding ∧ (offerAll l s).ctl = s.ctl ∧
    (offerAll l s).straps = s.straps ∧ (offerAll l s).setup = s.setup ∧ (offerAll l s).pins = s.pins ∧
    (offerAll l s).det = s.det ∧ (offerAll l s).pairer = s.pairer ∧ (offerAll l s).weigh = s.weigh ∧
    (offerAll l s).temp = s.temp ∧ (offerAll l s).former = s.former ∧ (offerAll l s).veh = s.veh ∧
    (offerAll l s).screenOn = s.screenOn ∧ (offerAll l s).peers = s.peers ∧ (offerAll l s).cal = s.cal ∧
    (offerAll l s).pending = s.pending := by
  induction l generalizing s with
  | nil => simp [offerAll]
  | cons f l ih =>
    unfold offerAll
    split <;> simp [ih]

@[simp] theorem tableRead_frame (f : RxFrame) (t i n : Nat) (s : State) :
    (tableRead f t i n s).tick = s.tick ∧ (tableRead f t i n s).outstanding = s.outstanding ∧
    (tableRead f t i n s).ctl = s.ctl ∧ (tableRead f t i n s).straps = s.straps ∧
    (tableRead f t i n s).setup = s.setup ∧ (tableRead f t i n s).pins = s.pins ∧ (tableRead f t i n s).det = s.det ∧
    (tableRead f t i n s).pairer = s.pairer ∧ (tableRead f t i n s).weigh = s.weigh ∧
    (tableRead f t i n s).temp = s.temp ∧ (tableRead f t i n s).former = s.former ∧
    (tableRead f t i n s).veh = s.veh ∧ (tableRead f t i n s).screenOn = s.screenOn ∧
    (tableRead f t i n s).peers = s.peers ∧ (tableRead f t i n s).cal = s.cal ∧
    (tableRead f t i n s).pending = s.pending := by
  unfold tableRead
  split <;> simp

@[simp] theorem takeLock_frame (f : RxFrame) (s : State) :
    (takeLock f s).tick = s.tick ∧ (takeLock f s).outstanding = s.outstanding ∧ (takeLock f s).ctl = s.ctl ∧
    (takeLock f s).straps = s.straps ∧ (takeLock f s).setup = s.setup ∧ (takeLock f s).pins = s.pins ∧
    (takeLock f s).det = s.det ∧ (takeLock f s).pairer = s.pairer ∧ (takeLock f s).weigh = s.weigh ∧
    (takeLock f s).temp = s.temp ∧ (takeLock f s).former = s.former ∧ (takeLock f s).veh = s.veh ∧
    (takeLock f s).screenOn = s.screenOn ∧ (takeLock f s).peers = s.peers ∧ (takeLock f s).pending = s.pending := by
  unfold takeLock
  (repeat' split) <;> simp

@[simp] theorem takeErase_frame (f : RxFrame) (s : State) :
    (takeErase f s).tick = s.tick ∧ (takeErase f s).outstanding = s.outstanding ∧ (takeErase f s).ctl = s.ctl ∧
    (takeErase f s).straps = s.straps ∧ (takeErase f s).setup = s.setup ∧ (takeErase f s).pins = s.pins ∧
    (takeErase f s).det = s.det ∧ (takeErase f s).pairer = s.pairer ∧ (takeErase f s).weigh = s.weigh ∧
    (takeErase f s).temp = s.temp ∧ (takeErase f s).former = s.former ∧ (takeErase f s).veh = s.veh ∧
    (takeErase f s).screenOn = s.screenOn ∧ (takeErase f s).peers = s.peers ∧
    (takeErase f s).pending = s.pending := by
  unfold takeErase
  (repeat' split) <;> simp

@[simp] theorem takeScreen_frame (f : RxFrame) (s : State) :
    (takeScreen f s).tick = s.tick ∧ (takeScreen f s).outstanding = s.outstanding ∧ (takeScreen f s).ctl = s.ctl ∧
    (takeScreen f s).straps = s.straps ∧ (takeScreen f s).setup = s.setup ∧ (takeScreen f s).pins = s.pins ∧
    (takeScreen f s).det = s.det ∧ (takeScreen f s).pairer = s.pairer ∧ (takeScreen f s).weigh = s.weigh ∧
    (takeScreen f s).temp = s.temp ∧ (takeScreen f s).former = s.former ∧ (takeScreen f s).veh = s.veh ∧
    (takeScreen f s).peers = s.peers ∧ (takeScreen f s).cal = s.cal ∧ (takeScreen f s).pending = s.pending := by
  unfold takeScreen refuseField
  (repeat' split) <;> simp

@[simp] theorem takeRezero_frame (f : RxFrame) (s : State) :
    (takeRezero f s).tick = s.tick ∧ (takeRezero f s).outstanding = s.outstanding ∧
    (takeRezero f s).straps = s.straps ∧ (takeRezero f s).setup = s.setup ∧ (takeRezero f s).pins = s.pins ∧
    (takeRezero f s).pairer = s.pairer ∧ (takeRezero f s).weigh = s.weigh ∧ (takeRezero f s).temp = s.temp ∧
    (takeRezero f s).former = s.former ∧ (takeRezero f s).screenOn = s.screenOn ∧ (takeRezero f s).peers = s.peers ∧
    (takeRezero f s).cal = s.cal ∧ (takeRezero f s).pending = s.pending := by
  unfold takeRezero refuseField
  (repeat' split) <;> simp

@[simp] theorem takeTableRead_frame (f : RxFrame) (s : State) :
    (takeTableRead f s).tick = s.tick ∧ (takeTableRead f s).outstanding = s.outstanding ∧
    (takeTableRead f s).ctl = s.ctl ∧ (takeTableRead f s).straps = s.straps ∧ (takeTableRead f s).setup = s.setup ∧
    (takeTableRead f s).pins = s.pins ∧ (takeTableRead f s).det = s.det ∧ (takeTableRead f s).pairer = s.pairer ∧
    (takeTableRead f s).weigh = s.weigh ∧ (takeTableRead f s).temp = s.temp ∧ (takeTableRead f s).former = s.former ∧
    (takeTableRead f s).veh = s.veh ∧ (takeTableRead f s).screenOn = s.screenOn ∧
    (takeTableRead f s).peers = s.peers ∧ (takeTableRead f s).cal = s.cal ∧
    (takeTableRead f s).pending = s.pending := by
  unfold takeTableRead refuseTable
  (repeat' split) <;> simp

@[simp] theorem takeTableWrite_frame (f : RxFrame) (s : State) :
    (takeTableWrite f s).tick = s.tick ∧ (takeTableWrite f s).outstanding = s.outstanding ∧
    (takeTableWrite f s).ctl = s.ctl ∧ (takeTableWrite f s).straps = s.straps ∧
    (takeTableWrite f s).setup = s.setup ∧ (takeTableWrite f s).pins = s.pins ∧ (takeTableWrite f s).det = s.det ∧
    (takeTableWrite f s).pairer = s.pairer ∧ (takeTableWrite f s).weigh = s.weigh ∧
    (takeTableWrite f s).temp = s.temp ∧ (takeTableWrite f s).former = s.former ∧ (takeTableWrite f s).veh = s.veh ∧
    (takeTableWrite f s).screenOn = s.screenOn ∧ (takeTableWrite f s).peers = s.peers ∧
    (takeTableWrite f s).pending = s.pending := by
  unfold takeTableWrite refuseTable
  (repeat' split) <;> simp

@[simp] theorem takeTableCut_frame (f : RxFrame) (s : State) :
    (takeTableCut f s).tick = s.tick ∧ (takeTableCut f s).outstanding = s.outstanding ∧
    (takeTableCut f s).ctl = s.ctl ∧ (takeTableCut f s).straps = s.straps ∧ (takeTableCut f s).setup = s.setup ∧
    (takeTableCut f s).pins = s.pins ∧ (takeTableCut f s).det = s.det ∧ (takeTableCut f s).pairer = s.pairer ∧
    (takeTableCut f s).weigh = s.weigh ∧ (takeTableCut f s).temp = s.temp ∧ (takeTableCut f s).former = s.former ∧
    (takeTableCut f s).veh = s.veh ∧ (takeTableCut f s).screenOn = s.screenOn ∧ (takeTableCut f s).peers = s.peers ∧
    (takeTableCut f s).pending = s.pending := by
  unfold takeTableCut refuseTable
  (repeat' split) <;> simp

@[simp] theorem takeRestart_frame (f : RxFrame) (s : State) :
    (takeRestart f s).tick = s.tick ∧ (takeRestart f s).outstanding = s.outstanding ∧
    (takeRestart f s).straps = s.straps ∧ (takeRestart f s).setup = s.setup ∧ (takeRestart f s).pins = s.pins ∧
    (takeRestart f s).det = s.det ∧ (takeRestart f s).pairer = s.pairer ∧ (takeRestart f s).weigh = s.weigh ∧
    (takeRestart f s).temp = s.temp ∧ (takeRestart f s).former = s.former ∧ (takeRestart f s).veh = s.veh ∧
    (takeRestart f s).screenOn = s.screenOn ∧ (takeRestart f s).peers = s.peers ∧ (takeRestart f s).cal = s.cal ∧
    (takeRestart f s).pending = s.pending := by
  unfold takeRestart refuseField
  simp only []
  (repeat' split) <;> simp

end Sys2Proof.Machine
end

