-- ==== Sys2Proof/Laws/LaneClear.lean ====
section
/-! SUPPORT. The run count of a lane-clear run (R101): which operations keep it, and that none but the start of a run raises it. -/

namespace Sys2Proof.Machine

open Sys2Proof

/-! ### The operations that keep the run count -/

@[simp] theorem changeVehicle_run (number : BitVec 16) (g : Vehicle → Vehicle) (s : State) :
    (changeVehicle number g s).veh.runCount = s.veh.runCount := rfl

@[simp] theorem returnToReady_run (f : TxFrame) (s : State) : (returnToReady f s).veh.runCount = s.veh.runCount := by
  unfold returnToReady
  split <;> rfl

@[simp] theorem offerUrgent_run (f : TxFrame) (s : State) : (offerUrgent f s).1.veh.runCount = s.veh.runCount := by
  unfold offerUrgent
  (repeat' split) <;> simp

@[simp] theorem admitVehicle_run (v : Vehicle) (s : State) : (admitVehicle v s).veh.runCount = s.veh.runCount := by
  simp [admitVehicle]

@[simp] theorem offerList_run (l : List (BitVec 16)) (s : State) : (offerList l s).veh.runCount = s.veh.runCount := by
  induction l generalizing s with
  | nil => rfl
  | cons n l ih =>
    unfold offerList
    (repeat' split) <;> simp [ih]

@[simp] theorem offerReady_run (s : State) : (offerReady s).veh.runCount = s.veh.runCount := by simp [offerReady]

@[simp] theorem freeVehicle_run (number : BitVec 16) (s : State) : (freeVehicle number s).veh.runCount = s.veh.runCount := rfl

@[simp] theorem offerOverload_run (f : TxFrame) (s : State) : (offerOverload f s).1.veh.runCount = s.veh.runCount := by
  unfold offerOverload
  split <;> simp

@[simp] theorem classVehicle_run (v : Vehicle) (s : State) : (classVehicle v s).veh.runCount = s.veh.runCount := by
  unfold classVehicle
  dsimp only
  split <;> simp

@[simp] theorem enterClosed_run (number : BitVec 16) (s : State) : (enterClosed number s).veh.runCount = s.veh.runCount := rfl

@[simp] theorem leaveClosing_run (number : BitVec 16) (s : State) :
    (leaveClosing number s).veh.runCount = s.veh.runCount := by
  unfold leaveClosing
  (repeat' split) <;> simp

@[simp] theorem changeOpen_run (g : Vehicle → Vehicle) (s : State) : (changeOpen g s).veh.runCount = s.veh.runCount := rfl

@[simp] theorem closeEntry_run (number : BitVec 16) (cause : CloseCause) (s : State) :
    (closeEntry number cause s).veh.runCount = s.veh.runCount := by simp [closeEntry]

@[simp] theorem openVehicle_run (a : Axle) (lead : Option Nat) (s : State) :
    (openVehicle a lead s).1.veh.runCount = s.veh.runCount := by
  unfold openVehicle
  split <;> simp

@[simp] theorem placeAxle_run (a : Axle) (s : State) : (placeAxle a s).1.veh.runCount = s.veh.runCount := by
  unfold placeAxle
  (repeat' split) <;> simp [truncateEntry]

@[simp] theorem moveAxle_run (e : MergeEntry) (g : Axle → Axle) (b : Bool) (s : State) :
    (moveAxle e g b s).veh.runCount = s.veh.runCount := rfl

@[simp] theorem changeAxle_run (e : MergeEntry) (g : Axle → Axle) (s : State) :
    (changeAxle e g s).veh.runCount = s.veh.runCount := rfl

@[simp] theorem removeAxle_run (e : MergeEntry) (s : State) : (removeAxle e s).veh.runCount = s.veh.runCount := rfl

@[simp] theorem giveUpMerge_run (e : MergeEntry) (s : State) : (giveUpMerge e s).veh.runCount = s.veh.runCount := by
  simp [giveUpMerge]

@[simp] theorem takeMerge_run (e : MergeEntry) (h : PeerHalf) (s : State) :
    (takeMerge e h s).veh.runCount = s.veh.runCount := by
  unfold takeMerge
  dsimp only
  split <;> simp

@[simp] theorem endTaken_run (e : MergeEntry) (g : Axle → Axle) (s : State) :
    (endTaken e g s).veh.runCount = s.veh.runCount := by simp [endTaken]

@[simp] theorem takeHalfAxle_run (f : RxFrame) (s : State) : (takeHalfAxle f s).veh.runCount = s.veh.runCount := by
  unfold takeHalfAxle
  dsimp only
  (repeat' split) <;> simp

@[simp] theorem sendMerge_run (k : FrameKind) (dst r : Byte) (s : State) :
    (sendMerge k dst r s).veh.runCount = s.veh.runCount := by simp [sendMerge]

@[simp] theorem takeTake_run (r partner : Byte) (s : State) : (takeTake r partner s).veh.runCount = s.veh.runCount := by
  unfold takeTake
  (repeat' split) <;> simp

@[simp] theorem takeCede_run (r partner : Byte) (s : State) : (takeCede r partner s).veh.runCount = s.veh.runCount := by
  unfold takeCede
  split <;> simp

@[simp] theorem takeRefuse_run (r partner : Byte) (s : State) : (takeRefuse r partner s).veh.runCount = s.veh.runCount := by
  unfold takeRefuse
  split <;> simp

@[simp] theorem confirmVacancy_run (s : State) : (confirmVacancy s).veh.runCount = s.veh.runCount := by
  unfold confirmVacancy
  split <;> simp

/-! ### The operations that can end a run or count one of its frames -/

/-- An axle handed to the assembler ends a run, whatever becomes of the axle. -/
@[simp] theorem handAxle_run (a : Axle) (s : State) : (handAxle a s).1.veh.runCount = 0 := by
  simp [handAxle, endRun]

theorem takeLone_run (w : WeighedHit) (s : State) : (takeLone w s).veh.runCount = 0 := by
  unfold takeLone cederHalf ownerHalf handPart
  dsimp only
  (repeat' split) <;> simp [addMerge]

theorem receiveWheel_run (w : WeighedHit) (s : State) : (receiveWheel w s).veh.runCount ≤ s.veh.runCount := by
  unfold receiveWheel holdWheel
  dsimp only
  (repeat' split) <;> simp [takeLone_run]

theorem completeWeighing_run (w : Weighing) (s : State) : (completeWeighing w s).veh.runCount ≤ s.veh.runCount := by
  simpa [completeWeighing] using receiveWheel_run { hit := w.hit, data := weighingOutcome w } (s.withWeigh { s.weigh with inFlight := none })

theorem formBeacon_run (s : State) : (formBeacon s).veh.runCount ≤ s.veh.runCount := by
  unfold formBeacon laneClearStep
  dsimp only
  split <;> simp

theorem endSelftest_run (b : Bool) (s : State) : (endSelftest b s).veh.runCount ≤ s.veh.runCount := by
  simp only [endSelftest, State.withCtl_veh]
  exact (formBeacon_run _).trans (by simp)

theorem presenceChange_run (level : LineLevel) (s : State) :
    (presenceChange level s).veh.runCount ≤ s.veh.runCount := by
  unfold presenceChange
  (repeat' split) <;> simp [endRun, withPresence]

/-- The end of an event raises the run count only when a run starts. -/
theorem endEvent_keep (before s : State)
    (h : ¬((endEvent before s).ctl.station = .run ∧ laneClear (endEvent before s) = true ∧
      (before.ctl.station ≠ .run ∨ laneClear before = false))) :
    (endEvent before s).veh.runCount = s.veh.runCount := by
  have hz : ∀ b z, (endSettling b z).veh = z.veh := by
    intro b z; unfold endSettling; split <;> simp
  unfold endEvent startRun at *
  rw [← hz (s.det.all settled) s]
  generalize endSettling _ _ = z at *
  by_cases h0 : (inRun z && laneClear z && !(inRun before && laneClear before)) = true
  · rw [if_pos h0] at h
    refine absurd ?_ h
    simp only [Bool.and_eq_true, Bool.not_eq_true', Bool.and_eq_false_iff, inRun, decide_eq_true_eq, decide_eq_false_iff_not] at h0
    exact ⟨h0.1.1, h0.1.2, h0.2⟩
  · rw [if_neg h0]

end Sys2Proof.Machine
end

