-- ==== Sys2Proof/Laws/Ops.lean ====
section
/-! SUPPORT. What each shared operation does, said once: the list operations at the element they find, the delivery of a received
frame, the offers to the transmit queue, the replies, the comparisons of station times, and the counters. -/

namespace Sys2Proof.Machine

open Sys2Proof

/-! ### Lists -/

theorem changeFirst_at {α : Type} (p : α → Bool) (g : α → α) (before : List α) (a : α) (behind : List α)
    (h1 : ∀ x ∈ before, p x = false) (h2 : p a = true) :
    changeFirst p g (before ++ a :: behind) = before ++ g a :: behind := by
  induction before with
  | nil => simp [changeFirst, h2]
  | cons b l ih =>
    simp only [List.mem_cons, forall_eq_or_imp] at h1
    simp only [List.cons_append, changeFirst, h1.1, Bool.false_eq_true, if_false, ih h1.2]

theorem changeFirst_none {α : Type} (p : α → Bool) (g : α → α) (l : List α) (h : ∀ x ∈ l, p x = false) :
    changeFirst p g l = l := by
  induction l with
  | nil => rfl
  | cons b l ih =>
    simp only [List.mem_cons, forall_eq_or_imp] at h
    simp only [changeFirst, h.1, Bool.false_eq_true, if_false, ih h.2]

theorem changeFirst_length {α : Type} (p : α → Bool) (g : α → α) (l : List α) :
    (changeFirst p g l).length = l.length := by
  induction l with
  | nil => rfl
  | cons b l ih => unfold changeFirst; split <;> simp [ih]

theorem dropFirst_at {α : Type} (p : α → Bool) (before : List α) (a : α) (behind : List α)
    (h1 : ∀ x ∈ before, p x = false) (h2 : p a = true) : dropFirst p (before ++ a :: behind) = before ++ behind := by
  induction before with
  | nil => simp [dropFirst, h2]
  | cons b l ih =>
    simp only [List.mem_cons, forall_eq_or_imp] at h1
    simp only [List.cons_append, dropFirst, h1.1, Bool.false_eq_true, if_false, ih h1.2]

theorem dropLast_at {α : Type} (p : α → Bool) (before : List α) (a : α) (behind : List α)
    (h1 : ∀ x ∈ behind, p x = false) (h2 : p a = true) : dropLast p (before ++ a :: behind) = before ++ behind := by
  unfold dropLast
  rw [List.reverse_append, List.reverse_cons, List.append_assoc, List.singleton_append,
    dropFirst_at p _ _ _ (by simpa using h1) h2]
  simp

theorem find_at {α : Type} (p : α → Bool) (before : List α) (a : α) (behind : List α)
    (h1 : ∀ x ∈ before, p x = false) (h2 : p a = true) : (before ++ a :: behind).find? p = some a := by
  rw [List.find?_append, List.find?_eq_none.2 (by simpa using h1)]
  simp [h2]

theorem takeFirst_at {α : Type} (p : α → Bool) (before : List α) (a : α) (behind : List α)
    (h1 : ∀ x ∈ before, p x = false) (h2 : p a = true) :
    takeFirst p (before ++ a :: behind) = some (a, before ++ behind) := by
  induction before with
  | nil => simp [takeFirst, h2]
  | cons b l ih =>
    simp only [List.mem_cons, forall_eq_or_imp] at h1
    simp only [List.cons_append, takeFirst, h1.1, Bool.false_eq_true, if_false, ih h1.2, Option.map_some]

theorem takeFirst_none {α : Type} (p : α → Bool) (l : List α) (h : ∀ x ∈ l, p x = false) : takeFirst p l = none := by
  induction l with
  | nil => rfl
  | cons b l ih =>
    simp only [List.mem_cons, forall_eq_or_imp] at h
    simp only [takeFirst, h.1, Bool.false_eq_true, if_false, ih h.2, Option.map_none]

theorem takeFirst_some {α : Type} {p : α → Bool} {l rest : List α} {a : α} (h : takeFirst p l = some (a, rest)) :
    ∃ before behind, l = before ++ a :: behind ∧ rest = before ++ behind ∧ p a = true ∧ ∀ x ∈ before, p x = false := by
  induction l generalizing rest with
  | nil => simp [takeFirst] at h
  | cons b l ih =>
    unfold takeFirst at h
    split at h
    · rename_i hb
      simp only [Option.some.injEq, Prod.mk.injEq] at h
      obtain ⟨rfl, rfl⟩ := h
      exact ⟨[], l, rfl, rfl, hb, by simp⟩
    · rename_i hb
      obtain ⟨⟨c, r⟩, hc, h2⟩ := Option.map_eq_some_iff.1 h
      simp only [Prod.mk.injEq] at h2
      obtain ⟨rfl, rfl⟩ := h2
      obtain ⟨x, y, rfl, rfl, h4, h5⟩ := ih hc
      exact ⟨b :: x, y, rfl, rfl, h4, by simpa [hb] using h5⟩

theorem pushBounded_length {α : Type} (cap : Nat) (l : List α) (a : α) (h : l.length ≤ cap) (hc : 0 < cap) :
    (pushBounded cap l a).length ≤ cap := by
  unfold pushBounded
  split <;> simp <;> omega

/-! ### Times and ranges -/

theorem reached_iff (u t : BitVec 32) : reached u t = true ↔ 0 ≤ (u - t).toInt := by simp [reached, sdiff]

theorem isLater_iff (u t : BitVec 32) : isLater u t = true ↔ 0 < (u - t).toInt := by simp [isLater, sdiff]

theorem within_iff (u t : BitVec 32) (n : Nat) : within u t n = true ↔ (sdiff u t).natAbs ≤ n := by simp [within]

theorem inRange_iff (lo hi n : Nat) : inRange lo hi n = true ↔ lo ≤ n ∧ n ≤ hi := by simp [inRange]

theorem tempInRange_iff (t : Int) : tempInRange t = true ↔ -400 ≤ t ∧ t ≤ 800 := by
  rw [tempInRange, Bool.and_eq_true, decide_eq_true_iff, decide_eq_true_iff]
  exact Iff.rfl

theorem satInc_le (n : Nat) : satInc n ≤ 65535 := by
  unfold satInc countMax
  split <;> omega

theorem le_satInc {n : Nat} (h : n ≤ 65535) : n ≤ satInc n := by
  unfold satInc countMax
  split <;> omega

/-! ### Received frames -/

/-- What a delivery answers: the oldest frame of the receive queue and the station without it. -/
theorem deliver_some {kind : Byte} {s t : State} {f : RxFrame} (h : deliver kind s = some (f, t)) :
    ∃ rest, AtFront kind f rest s ∧ t = taken rest s := by
  unfold deliver at h
  split at h
  · rename_i g rest hq
    split at h
    · rename_i hc
      simp only [Bool.and_eq_true, decide_eq_true_eq] at hc
      simp only [Option.some.injEq, Prod.mk.injEq] at h
      obtain ⟨rfl, rfl⟩ := h
      exact ⟨rest, ⟨hc.1.1, hc.1.2, hq, hc.2⟩, rfl⟩
    · simp at h
  · simp at h

theorem deliver_front {kind : Byte} {f : RxFrame} {rest : List RxFrame} {s : State} (h : AtFront kind f rest s) :
    deliver kind s = some (f, taken rest s) := by
  obtain ⟨a, b, c, d⟩ := h
  simp [deliver, c, a, b, d, taken, takenLink]

theorem onCommand_front {kind : Byte} {f : RxFrame} {rest : List RxFrame} {s : State}
    (e : RxFrame → State → State) (h : AtFront kind f rest s) : onCommand kind e s = .next (e f (taken rest s)) := by
  simp only [onCommand, deliver_front h]

/-! ### Offers and replies -/

/-- An offer that displaces nothing: a free place is taken, or the frame is dropped and counted. -/
theorem offerPlain_eq (f : TxFrame) (s : State) :
    offerPlain f s =
      if s.link.queue.length < 16 then (s.withLink { s.link with queue := s.link.queue ++ [f] }, true)
      else (raise .queueLoss (bump .txDrop s), false) := by
  unfold offerPlain placeFree txCap takePlace withQueue txDrop
  split <;> simp_all

theorem offerPlain_room {f : TxFrame} {s : State} (h : s.link.queue.length < 16) :
    offerPlain f s = (s.withLink { s.link with queue := s.link.queue ++ [f] }, true) := by
  rw [offerPlain_eq, if_pos h]

theorem offerUrgent_room {f : TxFrame} {s : State} (h : s.link.queue.length < 16) :
    offerUrgent f s = (s.withLink { s.link with queue := s.link.queue ++ [f] }, true) := by
  simp [offerUrgent, placeFree, txCap, h, takePlace, withQueue]

/-- A reply that finds a place: one REPLY to an addressed command, none to a broadcast one. -/
theorem replyTo_room {f : RxFrame} {code : ReplyCode} {table : Byte} {s : State} (h : s.link.queue.length < 16) :
    replyTo f code table s = s.withLink { s.link with queue := answered f code table s.link.queue } := by
  unfold replyTo addressed answered sendReply
  by_cases hb : f.dest = broadcast
  · simp only [ne_eq, hb, not_true, decide_false, Bool.false_eq_true, if_false, if_true]; rfl
  · simp [hb, offerPlain_room h]

theorem offerList_none (l : List (BitVec 16)) (s : State) (h : ∀ v ∈ s.veh.entries, v.state ≠ .ready) :
    offerList l s = s := by
  induction l with
  | nil => rfl
  | cons n l ih =>
    unfold offerList
    split
    · rename_i v hv
      have := h v (List.mem_of_find?_eq_some hv)
      simp [this, ih]
    · exact ih

theorem offerReady_none (s : State) (h : ∀ v ∈ s.veh.entries, v.state ≠ .ready) : offerReady s = s :=
  offerList_none _ _ h

theorem txRank_le (k : FrameKind) : txRank k ≤ 3 := by cases k <;> simp [txRank, frameClass]

theorem refillImmediate_none {s : State} (h : ∀ x ∈ s.link.queue, x.kind ≠ .overload) : refillImmediate s = s := by
  unfold refillImmediate
  rw [takeFirst_none _ _ (by simpa [isOverload] using h)]

end Sys2Proof.Machine
end

