-- ==== Sys2Proof/WellFormed.lean ====
section
/-! DEFINITION. Which commands are well formed: the operands whose type admits more than the port or table can carry. -/

namespace Sys2Proof

/-- The merge table holds at most 8 entries, in places 0..7 (R69). -/
def Instr.slotOk (slot : Nat) : Bool := decide (slot < 8)

/-- A frame that completes has a payload of at most 80 bytes (R133, R135). -/
def Instr.payloadOk (payload : List Byte) : Bool := decide (payload.length ≤ 80)

/-- Every operand lies in the range its port, frame or table can carry. -/
def Instr.wellFormed : Instr → Bool
  | .powerOn | .supplyLow | .resetLine | .linkRestart | .startDone _ => true
  | .strobe | .sampleSet .. | .selftestWaitExpiry | .weighingComplete | .loneDeclaration _ => true
  | .cederWaitExpiry slot => slotOk slot
  | .ownerWaitExpiry slot => slotOk slot
  | .confirmationWaitExpiry slot => slotOk slot
  | .peerHalfExpiry .. | .gapTimerExpiry | .presenceLineChange _ | .debounceExpiry | .stuckExpiry => true
  | .probeReading .. | .stalenessExpiry _ | .freshnessExpiry | .heldTimerExpiry | .beaconTimerExpiry => true
  | .frameComplete _ _ _ payload _ => payloadOk payload
  | .frameBroken _ | .beaconReceived | .lossExpiry _ | .halfAxleReceived | .mergeTakeReceived => true
  | .mergeCedeReceived | .mergeRefuseReceived | .slotBegin | .collision | .transmissionComplete => true
  | .hold | .resume | .holdTimerExpiry | .tempRequest | .screen | .rezero => true
  | .tableRead | .tableWrite | .tableCut | .lock | .erase | .restart => true
  | .writeComplete | .cutComplete | .eraseComplete | .resetCauseEnd _ | .startBitSeen => true

end Sys2Proof
end

