-- ==== Sys2Proof/Tests/Slice0.lean ====
section
/-! SUPPORT. Tests on fixed values. The first part checks the model against figures that the manual works out itself; each
test names the example or rule its numbers come from. The second part gives, for every statement with hypotheses, a state
and operands that meet them, clause by clause at the ends of their ranges. -/

open Sys2Proof Sys2Proof.Machine

namespace Sys2Proof.Tests

/-! ### Well-formed commands -/

theorem test_slot_eight_is_ill_formed :
    (Instr.cederWaitExpiry 8).wellFormed = false ∧ (Instr.ownerWaitExpiry 8).wellFormed = false ∧
    (Instr.confirmationWaitExpiry 8).wellFormed = false ∧ (Instr.cederWaitExpiry 7).wellFormed = true := by decide

theorem test_payload_of_eighty_one_is_ill_formed :
    (Instr.frameComplete 0x20 6 255 (List.replicate 81 0) 0).wellFormed = false ∧
    (Instr.frameComplete 0x20 6 255 (List.replicate 80 0) 0).wellFormed = true := by decide

theorem test_no_word_spells_a_command : decodeTableWord 8 0x30 = none ∧
    (State.reset.withFetchWord 16 0x1234).pending = [] := by decide

/-! ### Bytes and checks -/

/-- R134: the nine bytes 31H to 39H give the CRC 29B1H. -/
theorem test_crc_of_nine_digits : crc16 [0x31, 0x32, 0x33, 0x34, 0x35, 0x36, 0x37, 0x38, 0x39] = 0x29B1#16 := by decide +kernel

/-- The example under R3: values 100, −2, 300, 0, tag byte 4 and set check 110. -/
theorem test_set_check_example :
    setPasses 100 (-2) 300 0 4 110 = true ∧ setPasses 100 (-2) 300 0 4 111 = false ∧
    setPasses 100 (-2) 300 0 20 94 = false := by decide +kernel

/-- R154: stored bytes that sum to 4933 take the check byte 187. -/
theorem test_check_byte_example : (-(BitVec.ofNat 8 4933) : Byte) = 187 := by decide

/-- The example under R144: the first draws of station 4 start from 16,397. -/
theorem test_backoff_of_station_four :
    backoffSeed 4 = 16397 ∧ advanceLfsr 16397 = 40966 ∧ advanceLfsr 40966 = 53251 ∧ advanceLfsr 53251 = 59393 ∧
    advanceLfsr 59393 = 62464 := by decide

/-! ### Detectors -/

/-- A detector in READY with its baseline at 100 counts. -/
def readyAt100 : Detector := { Detector.reset with state := .ready, base := some 1600, settle := 2000 }

/-- The example under R9. -/
theorem test_baseline_step :
    (takeSample .builtIn .br 5 (.good 104 false) readyAt100).1.base = some 1601 ∧
    (takeSample .builtIn .br 5 (.good 103 false) readyAt100).1.base = some 1600 ∧
    (takeSample .builtIn .br 5 (.good 96 false) readyAt100).1.base = some 1599 := by decide

/-- The corrected samples of the example under R18, from tick 1000, on a baseline of 0. -/
def onePulse : Detector × Option PulseRec :=
  ([450, 900, 1200, 150, 250, 120, 60, 10, -5].zipIdx 1000).foldl
    (fun r x => takeSample .builtIn .br (BitVec.ofNat 32 x.2) (.good x.1 false) r.1)
    ({ Detector.reset with state := .ready, base := some 0, settle := 2000 }, none)

theorem test_one_pulse :
    onePulse.1.state = .ready ∧ onePulse.2 = some ⟨.br, 1000, 1004, 2950, false, false, false⟩ := by decide

/-! ### Speed, pairing and weighing -/

/-- The examples under R23 and R25. -/
theorem test_speed_of_one_wheel :
    pairTest 4000 200000 201920 = .pairs 33333 ∧ pairTest 4000 4294966896 1520 = .pairs 33333 ∧
    recordSpeed 33333 = 1200 ∧ pairTest 4000 100000 200500 = .tooOld ∧ pairTest 4000 200000 200500 = .tooFast := by decide

/-- The weighing of the example under R40. -/
def pathLWeighing : Weighing :=
  { hit := ⟨.left, 33333, ⟨.al, 0, 0, 1200000, false, false, false⟩, ⟨.bl, 0, 0, 1150000, false, false, false⟩⟩
    begun := 0, temp := 275, source := .probe, gain := [430, 0, 455, 0]
    band := [(600, 1040), (1000, 1030), (1400, 1010), (2500, 1000)], temps := [(0, 1100), (200, 1024), (400, 960)]
    limit := 25, calibrated := true }

theorem test_one_wheel_on_path_l :
    estimate pathLWeighing pathLWeighing.hit.aPulse = ⟨3857, false⟩ ∧
    estimate pathLWeighing pathLWeighing.hit.bPulse = ⟨3911, false⟩ ∧
    weighingOutcome pathLWeighing = ⟨some 3884, false, false, false, false, some 275, some .probe⟩ := by decide

/-- The example of temperature factors under R40. -/
theorem test_temperature_factors :
    [-50, 0, 25, 30, 150, 200, 275, 520].map (tempFactor pathLWeighing.temps) =
      [1100, 1100, 1090, 1089, 1043, 1024, 1000, 960] := by decide

/-! ### The temperature unit -/

/-- The example of the ring filter under R45. -/
theorem test_ring_filter :
    filtered { Probe.reset with ring := [271, 273, 274, 276, 275, 277, 278, 276] } = some 275 ∧
    filtered { Probe.reset with ring := pushRing [271, 273, 274, 276, 275, 277, 278, 276] 283 } = some 277 ∧
    filtered { Probe.reset with ring := [-13, -14] } = some (-14) := by decide

/-! ### Axles and vehicles -/

/-- The examples of chapter 4: pairing windows, the time and speed of a FULL axle, the record speed of a half axle. -/
theorem test_axle_examples :
    pairingWindow 300 33333 = 144 ∧ pairingWindow 300 20000 = 240 ∧ pairingWindow 300 20300 = 236 ∧
    meanTime 600000 600050 = 600025 ∧ roundHalfUp (33333 + 33100) 2 = 33217 ∧ recordSpeed 20300 = 731 ∧
    mmPerSecond 731 = 20306 ∧ meanTime 400000 400030 = 400015 := by decide

/-- An axle of a time and a speed, its wheels with a load each. -/
def axleAt (time : HalfTick) (speed l r : Nat) : Axle :=
  { time := time, speed := speed, left := some ⟨some l, false, false, false, false, some 243, some .probe⟩,
    right := some ⟨some r, false, false, false, false, some 243, some .probe⟩, kind := .full, unconfirmed := false,
    ref := none, link := none }

/-- The tailgating car and the straddling truck of chapter 5. -/
theorem test_spacings_and_gap_timer :
    spacings [axleAt 1000000 20000 0 0, axleAt 1002880 20100 0 0, axleAt 1003920 19900 0 0] = [3609, 1300] ∧
    spacing (axleAt 400015 20153 0 0) (axleAt 403216 20153 0 0) = 4032 ∧ gapTime 12000 20000 = 6800 ∧
    gapTime 12000 20100 = 6777 ∧ gapTime 12000 19900 = 6825 ∧ gapTime 12000 20300 = 6730 := by decide

/-! ### Classes and screening -/

/-- The page for 5 axles of the example under R108. -/
def truckTables : Working :=
  { Working.absent with
    pages := [[], [], [], [⟨10, [(30, 45), (12, 15), (60, 90), (12, 15)], 150, 1000, 115, 440⟩,
      ⟨9, [(30, 45), (12, 15), (30, 90), (12, 15)], 0, 1000, 115, 400⟩], [], [], [], []] }

/-- The truck of that example, axle 4 with the loads given. -/
def truck (l r : Nat) (source : Source) : Vehicle :=
  { number := 57, state := .closed
    axles := [axleAt 100000 23611 3350 3310,
      { axleAt 102453 23611 4220 4180 with right := some ⟨some 4180, false, false, false, false, some 243, some source⟩ },
      axleAt 103341 23611 4260 4150, axleAt 107055 23611 l r, axleAt 107943 23611 3120 3080]
    firstSpeed := 23611, lastTime := 107943, lastSpeed := 23611, gapExpiry := none, lead := 0, truncated := false
    continuation := false, uncalibrated := false, cause := some .gap, outcome := none }

/-- What screening reads in the example after R116. -/
def truckInput : ScreenInput :=
  { locked := true, record := some ⟨100, 1300, -100, 600, 25⟩, calibrated := true, screenOn := true }

theorem test_five_axle_truck :
    (spacings (truck 5900 5810 .probe).axles).map inDm = [36, 13, 55, 13] ∧
    classify truckTables truckInput (truck 5900 5810 .probe) =
      { total := 5, cls := 9, entry := some 1, gross := 41380, incomplete := false, speed := 850, worst := some .probe,
        firstTemp := some 243, screening := .overload, exceeding := [(4, 11710)], grossExceeds := true, notice := .none } ∧
    (classify truckTables truckInput (truck 5750 5750 .probe)).exceeding = [] ∧
    (classify truckTables truckInput (truck 5750 5750 .probe)).screening = .overload := by decide

theorem test_truck_not_screened :
    (classify truckTables { truckInput with locked := false } (truck 5900 5810 .probe)).screening = .notScreened .notLocked ∧
    (classify truckTables { truckInput with screenOn := false } (truck 5900 5810 .probe)).screening =
      .notScreened .screenOff ∧
    (classify truckTables truckInput (truck 5900 5810 .default)).screening = .notScreened .tempSource := by decide

/-! ### Frames -/

/-- The example under R173, without the speed and temperature of the fixed part: 19 bytes. -/
def vehicle57 : Vehicle :=
  { number := 57, state := .ready
    axles := [{ axleAt 0 20000 3884 3911 with left := some ⟨some 3884, false, true, false, false, some 275, some .probe⟩ },
      { axleAt 2887 20000 0 4020 with left := none, kind := .part, ref := some 40 }]
    firstSpeed := 20000, lastTime := 0, lastSpeed := 20000, gapExpiry := none, lead := 0, truncated := false
    continuation := false, uncalibrated := false, cause := some .gap
    outcome := some { Classed.blank with
      cls := 2, entry := some 0, worst := some .probe, firstTemp := some 275, screening := .notScreened .part } }

theorem test_vehicle_frame_example :
    (vehiclePayload vehicle57).length = 19 ∧ (vehiclePayload vehicle57).take 6 = [0, 57, 2, 2, 65, 0] ∧
    (vehiclePayload vehicle57).drop 9 = [16, 15, 44, 15, 71, 4, 40, 15, 180, 36] := by decide

/-- R140 and the example of four rounds: start slots of stations 2, 4 and 6. -/
theorem test_start_slots :
    startSlot 2 false (mkFrame .beacon 255 []) = 50 ∧ startSlot 4 false (mkFrame .vehicle 0 []) = 20 ∧
    startSlot 6 false (mkFrame .halfAxle 4 []) = 22 ∧ startSlot 4 true (mkFrame .beacon 255 []) = 68 ∧
    startSlot 6 true (mkFrame .beacon 255 []) = 70 ∧
    startSlot 4 false { mkFrame .vehicle 0 [] with backoff := 3 } = 68 := by decide

/-- The example of conversion across the wrap under R128. -/
theorem test_offset_across_the_wrap :
    measuredOffset ⟨0x20, 6, 255, [6, 3, 0, 0, 0, 0, 0x0B, 0xB8, 0, 0], 4294960000⟩ = 10296 ∧
    (2000 : HalfTick) - ((10296 : Tick) + 10296) = 4294948704 := by decide

/-- The settings that are built in (R155), written out as a SETUP record (R176). -/
def setupBytes : List Byte :=
  [0x0F, 0xA0, 228, 100, 1, 0x90, 0, 0xC8, 4, 0x0F, 0xA0, 0x2E, 0xE0, 1, 0x2C, 0, 0, 0xC8, 60, 10]

theorem test_setup_record : setupOf setupBytes = .builtIn ∧ setupOk setupBytes = true ∧
    setupOk (setupBytes.set 3 101) = true ∧ setupOk (setupBytes.set 3 228) = false := by decide

/-! ### States and operands that meet the hypotheses of the statements -/

/-- Station 4 of lane 2 in RUN with both neighbour straps and the calibration strap. -/
def station : State :=
  { State.reset with
    tick := 1000
    ctl := { Control.inStart .powerOn 0 with station := .run, beaconExpiry := some 1000 }
    straps := ⟨4, 1, true, true, true⟩
    link := { Link.reset with rxPath := .idle, lfsr := 16397 } }

/-- A received frame from station 6. -/
def rx (kind : Byte) (payload : List Byte) (dest : Byte) : RxFrame := ⟨kind, 6, dest, payload, 990⟩

/-- The station with a frame at the head of its receive queue, due for delivery. -/
def withRx (f : RxFrame) (s : State) : State := s.withLink { s.link with rxQueue := [f], due := true }

/-- The station with `n` frames of a kind in its transmit queue. -/
def queued (n : Nat) (k : FrameKind) (s : State) : State := withQueue s (List.replicate n (mkFrame k 6 []))

/-- A stored TEMP table of one point (R156). -/
def tempTable : Stored := closedTable [[0, 200, 4, 0]]

/-- A calibration memory whose tables 0 to 4 are present. -/
def presentCal : CalMemory :=
  { CalMemory.blank with
    tables := [closedTable [setupBytes], closedTable [[0, 1, 174], [0, 1, 174], [0, 1, 199], [0, 1, 199]],
      closedTable [[2, 88, 4, 16]], tempTable, closedTable [[0, 100, 5, 20, 255, 156, 2, 88, 25]]] ++
      List.replicate 8 .blank
    calibrated := true }

/-- Peer 6 of lane 3 and peer 2 of lane 1, ALIGNED. -/
def peer6 : Peer :=
  { station := 6, lane := 3, group := 0, temp := 250, source := .probe, last := 900, offset := 50000,
    previous := some 50000, stable := 4, state := .aligned, lossExpiry := 28900 }
def peer2 : Peer := { peer6 with station := 2, lane := 1 }

/-- A weighed wheel of a path with a B-centre of twice `half` and a speed. -/
def wheel (p : Path) (half : Tick) (speed : Nat) : WeighedHit :=
  { hit := ⟨p, speed, ⟨.al, 0, 0, 1000, false, false, false⟩, ⟨.bl, half, half, 1000, false, false, false⟩⟩
    data := ⟨some 3884, false, false, false, false, some 275, some .probe⟩ }

/-- An A or B record of the left path with a centre of twice `half`. -/
def record (ch : Chan) (half : Tick) : PulseRec := ⟨ch, half, half, 1000, false, false, false⟩

/-- An OPEN vehicle with one linked axle. -/
def vehicle5 : Vehicle :=
  { number := 5, state := .opened
    axles := [{ axleAt 400000 20000 0 0 with right := none, kind := .pending, ref := some 17, link := some 0 }]
    firstSpeed := 20000, lastTime := 400000, lastSpeed := 20000, gapExpiry := some 1000, lead := 0, truncated := false
    continuation := false, uncalibrated := false, cause := none, outcome := none }

/-- The merge-table entry of that axle, with partner 6 and its deadline reached. -/
def merge (state : MergeState) : MergeEntry :=
  { slot := 0, state := state, partner := 6, ref := some 17, deadline := 1000, vehicle := 5
    own := ⟨.right, 400000, 20000, (wheel .right 0 0).data⟩ }

/-- The station with that entry in a state and the vehicle it is linked to. -/
def merging (state : MergeState) : State :=
  (withMerges station [merge state]).withVeh { Assembler.reset with entries := [vehicle5], counter := 6 }

/-- A detector in IN_PULSE on a baseline of 0. -/
def inPulse (p : Pulse) : Detector := { readyAt100 with state := .inPulse p, base := some 0 }

/-- A pulse, its area at the limit and three samples below T_off. -/
def limitPulse : Pulse := ⟨1000, 1000, 2147483647, 0, 3, false, false, false, false⟩


/-- A probe with a state, a ring, and its last good reading at tick 1000. -/
def probe (state : ProbeState) (ring : List Int) : Probe :=
  { state := state, ring := ring, lastGood := some 1000, bad := 2, good := 7 }

/-- The station with probe 0 as the weighing probe and the two probe records given. -/
def probing (p0 p1 : Probe) : State :=
  (station.withSetup { Setup.builtIn with assigned := ⟨true, true⟩, weighing := some .p0 }).withTemp
    { TempUnit.reset with
      probes := ⟨p0, p1⟩
      held := some 270
      heldExpiry := some 1000
      freshExpiry := some 1000 }

/-! ### The axle former -/

/-- The station with held wheels. -/
def holding (l r : List HeldWheel) : State := station.withFormer { Former.reset with holding := ⟨l, r⟩ }

/-- The left wheel of that car is declared lone at tick 300,073, with the span of an A record of path R over. -/
def lone : State :=
  ((holding [heldWheel .builtIn (wheel .left 300000 33333)] []).withTick 300073).withPairer ⟨[], [record .ar 276000]⟩

/-- The station with both neighbours. -/
def neighboured : State := station.withPeers [peer6, peer2]

/-- The HALF_AXLE of the straddling truck: reference 17, centre 500,030, record speed 731, 3911 kg, PROBE, 27.5 °C. -/
def half17 : List Byte := [17, 0, 0, 7, 161, 62, 2, 219, 0, 15, 71, 1, 19]

theorem test_half_axle_example :
    halfMalformed half17 = false ∧
    peerHalfOf station peer6 (rx 0x10 half17 4) =
      ⟨6, 17, 400030, 20306, ⟨some 3911, false, false, false, false, some 275, some .probe⟩, 4200⟩ ∧
    meanTime 400000 400030 = 400015 ∧ roundHalfUp (20000 + 20306) 2 = 20153 := by decide

/-! ### Vehicles -/

/-- The station with one vehicle. -/
def carrying (v : Vehicle) : State := station.withVeh { Assembler.reset with entries := [v], counter := 6 }

/-- A station in SELFTEST whose wait ends at this tick. -/
def waiting : State := station.withCtl { station.ctl with station := .selftest, waitExpiry := some 1000 }


/-! ### Peers and the link -/

/-- A beacon payload of station 6 of lane 3: state RUN, PROBE, 25.0 °C, timestamp 50,990. -/
def beacon6 : List Byte := [6, 3, 64, 0, 0, 0, 199, 46, 0, 250, 0, 0, 0, 0, 0, 0, 0, 0]

/-- Fifteen peers 16 to 30, of which the first is in a state. -/
def fifteen (state : PeerState) : List Peer :=
  { peer6 with station := 16, state := state } ::
    (List.range 14).map fun k => { peer6 with station := BitVec.ofNat 8 (17 + k) }

/-- The station with its receive path reading a frame. -/
def reading : State := station.withLink { station.link with rxPath := .reading 990 }

/-- A complete HOLD from station 6 with its CRC takes a place of the receive queue, with the stamp of its first start bit. -/
theorem test_frame_complete_is_queued :
    ∃ t, exec (.frameComplete 0x30 6 4 [] (crc16 [0x30, 6, 4, 0])) reading = .next t ∧
      t.link.rxQueue = [⟨0x30, 6, 4, [], 990⟩] ∧ t.link.rxPath = .idle := ⟨_, rfl, by decide +kernel⟩

/-- A frame of the station, in transmission or not. -/
def txFrame (k : FrameKind) (collisions : Nat) (sending : Bool) : TxFrame :=
  { mkFrame k 255 [4, 2, 0, 0, 0, 0, 0, 0, 9] with collisions := collisions, sending := sending }

/-- The station with a queue and an immediate slot. -/
def sendingState (immediate : Option TxFrame) (q : List TxFrame) : State :=
  station.withLink { station.link with immediate := immediate, queue := q }

/-- A beacon takes its timestamp at the slot in which it starts. -/
theorem test_beacon_is_stamped :
    ∃ t, exec .slotBegin ((sendingState none [txFrame .beacon 0 false]).withLink
        { (sendingState none [txFrame .beacon 0 false]).link with round := some ⟨51, false⟩ }) = .next t ∧
      t.link.queue.map TxFrame.payload = [[4, 2, 0, 0, 0, 0, 3, 232, 9]] ∧ t.link.queue.map TxFrame.sending = [true] :=
  ⟨_, rfl, by decide⟩

/-! ### Commands and the calibration memory -/

/-- The station with every table of `presentCal` and its calibration memory in an activity. -/
def calibrated (activity : Activity) : State := station.withCal { presentCal with activity := activity }

/-- A write while another is in flight is refused BUSY, and the write in flight completes with DONE. -/
theorem test_second_write_is_busy :
    ∃ t u, exec .tableWrite (withRx (rx 0x34 [1, 0, 0, 1, 174] 4) (calibrated (.writing 2 (.cut 1) 6 999))) = .next t ∧
      exec .cutComplete t = .next u ∧ u.cal.activity = .idle ∧
      u.link.queue.map TxFrame.payload = [[0x34, 2, 1], [0x35, 0, 2]] := ⟨_, _, rfl, rfl, by decide⟩

/-! ### Frames read back -/

/-! ### The straddling truck at both stations -/

/-- Station 4 takes HALF_AXLE 17 with its own wheel WAITING: MERGE_TAKE 17 goes out and the axle is MERGED. -/
theorem test_straddling_truck_is_merged :
    ∃ t, exec .halfAxleReceived ((withRx (rx 0x10 half17 4) (merging .waiting)).withPeers [peer6, peer2]) = .next t ∧
      t.former.merges.map MergeEntry.state = [.taken] ∧ t.link.queue.map TxFrame.payload = [[17]] ∧
      t.veh.entries.map (fun v => v.axles.map fun a => (a.kind, a.time, a.speed)) = [[(.merged, 400015, 20153)]] ∧
      t.counters.mergesTaken = 1 := ⟨_, rfl, by decide⟩

/-- Station 6's side: MERGE_TAKE 17 finds the OFFERED entry, and its axle is ceded and leaves its vehicle. -/
theorem test_take_is_ceded :
    ∃ t, exec .mergeTakeReceived (withRx (rx 0x02 [17] 4) (merging .offered)) = .next t ∧
      t.former.merges.map MergeEntry.state = [.ceded] ∧ t.veh.entries.map Vehicle.axles = [[]] ∧
      t.link.queue.map TxFrame.kind = [.mergeCede] ∧ t.counters.mergesCeded = 1 := ⟨_, rfl, by decide⟩

/-- R79 and R80: a CEDE confirms the axle, a REFUSE makes it PARTIAL again. -/
theorem test_cede_and_refuse :
    (∃ t, exec .mergeCedeReceived (withRx (rx 0x03 [17] 4) (merging .taken)) = .next t ∧ t.former.merges = [] ∧
      t.counters = .zero) ∧
    ∃ t, exec .mergeRefuseReceived (withRx (rx 0x04 [17] 4) (merging .taken)) = .next t ∧ t.former.merges = [] ∧
      t.veh.entries.map (fun v => v.axles.map Axle.kind) = [[.part]] ∧ t.counters.mergeConflict = 1 :=
  ⟨⟨_, rfl, by decide⟩, _, rfl, by decide⟩

/-! ### For every statement with hypotheses, a state and operands that meet them, clause by clause -/

/-- The station with a frame from station 6 at the head of its receive queue. -/
def given (kind : Byte) (payload : List Byte) (dest : Byte) (s : State) : State := withRx (rx kind payload dest) s

theorem test_witness_StepRunsFrontCommand :
    (station.withPending [.strobe]).pending = .strobe :: [] ∧ station.pending = [] := by decide

theorem test_witness_SoundKeptByEveryStep :
    Sound (station.withPending [.strobe]) ∧ ∃ t, step (station.withPending [.strobe]) = .next t :=
  ⟨⟨by decide, by decide, ⟨by decide, by decide, by decide, by decide⟩, by decide, by decide, by decide⟩, _, rfl⟩

theorem test_witness_TemperatureStaysInRange :
    TempsInRange (station.withPending [.strobe]) ∧ ∃ t, step (station.withPending [.strobe]) = .next t :=
  ⟨by decide, _, rfl⟩

theorem test_witness_DetectorsStayInRange :
    DetectorsInRange (station.withPending [.strobe]) ∧ ∃ t, step (station.withPending [.strobe]) = .next t :=
  have h : DetectorInRange Detector.reset :=
    ⟨by decide, by decide, by decide, by decide, by decide, by decide, by decide, rfl⟩
  ⟨⟨by decide, h, h, h, h⟩, _, rfl⟩

/-- A detector in a pulse whose next sample below T_off releases it. -/
def releasing : Detector :=
  { readyAt100 with base := some 0, state := .inPulse ⟨99990, 99995, 1000, 0, 3, false, false, false, false⟩ }

/-- The station in RUN at tick 100,000 with seven vehicle entries, a full weigh queue, a held wheel on each path, and a pulse
about to end on B-L and on B-R. -/
def twoBypassed : State :=
  let hit : WheelHit := (wheel .left 0 20000).hit
  { station with
    tick := 100000
    outstanding := some 100000
    det := ⟨{ readyAt100 with base := some 0 }, { readyAt100 with base := some 0 }, releasing, releasing⟩
    pairer := ⟨[⟨.al, 98392, 98393, 1000, false, false, false⟩], [⟨.ar, 98925, 98926, 1000, false, false, false⟩]⟩
    weigh := ⟨List.replicate 8 hit, some { pathLWeighing with begun := 99999 }⟩
    former := { Former.reset with
      holding := ⟨[heldWheel .builtIn (wheel .left 99992 30000)], [heldWheel .builtIn (wheel .right 99992 20000)]⟩ }
    veh := { Assembler.reset with entries := List.replicate 7 vehicle57, counter := 60 } }

/-- R4, R86, R101: the wheel of B-L opens the eighth entry; the wheel of B-R closes it and is lost, and a run starts there. -/
theorem test_run_starts_within_a_set :
    ∃ t, exec (.sampleSet 0 0 0 0 0 0) twoBypassed = .next t ∧ t.veh.runCount = 10 ∧ t.counters.vehicleLoss = 1 ∧
      t.counters.axlesFormed = 2 := ⟨_, rfl, by decide⟩

/-- A station in SETTLING whose channel A-L lacks one sample. -/
def settlingLast : State :=
  { station with
    ctl := { station.ctl with station := .settling }
    outstanding := some 1000
    det := ⟨{ Detector.reset with base := some 0, settle := 1999 }, { readyAt100 with base := some 0 },
      { readyAt100 with base := some 0 }, { readyAt100 with base := some 0 }⟩ }

/-- R4, R183: A-L becomes READY and ends SETTLING, though B-R starts a pulse in the same set. -/
theorem test_settling_ends_within_a_set :
    ∃ t, exec (.sampleSet 0 0 0 500 0 11) settlingLast = .next t ∧ t.ctl.station = .run ∧
      (detectorsAt settlingLast t 1).all settled = true ∧ t.det.all settled = false := ⟨_, rfl, by decide⟩

/-- R184: no notice is pending in reset, and TEMP_DEFAULT alone is in START. -/
theorem test_notices_at_reset :
    allNotices.filter (isPending State.reset) = [.tempDefault] ∧
    ∃ t, exec .powerOn station = .next t ∧ allNotices.filter (isPending t) = [] := ⟨by decide, _, rfl, by decide⟩

theorem test_witness_StationStatesFollowTheirTable :
    (∃ t, exec .powerOn station = .next t ∧ t.ctl.station ≠ station.ctl.station) ∧
    (∃ t, exec .selftestWaitExpiry waiting = .next t ∧ t.ctl.station = .run) ∧
    ∃ t, exec (.sampleSet 100 (-2) 300 0 4 110) (waiting.withOutstanding (some 1000)) = .next t ∧ t.ctl.station = .settling :=
  ⟨⟨_, rfl, by decide⟩, ⟨_, rfl, by decide⟩, _, rfl, by decide +kernel⟩

/-- The station with one counter at its greatest value. -/
def counted : State := { station with counters := { Counters.zero with txDrop := 65535 } }

theorem test_witness_CountersRiseUntilReset :
    (CountersFit counted ∧ isReset .strobe = false ∧ ∃ t, exec .strobe counted = .next t) ∧
    (isReset .powerOn = true ∧ ∃ t, exec .powerOn counted = .next t) :=
  ⟨⟨by decide, by decide, _, rfl⟩, by decide, _, rfl⟩

/-- The station locked, with its calibration memory in an activity. -/
def locked (activity : Activity) : State := station.withCal { presentCal with lock := true, activity := activity }

theorem test_witness_LockFreezesTablesUntilErase :
    (∃ t, exec .eraseComplete (locked (.erasing 6 999)) = .next t ∧ (locked (.erasing 6 999)).cal.lock = true ∧
      t.cal.lock = false) ∧
    (∃ t, exec .strobe (locked .idle) = .next t ∧ (locked .idle).cal.lock = true ∧ t.cal.lock = true ∧
      notWriting (locked .idle).cal = true) :=
  ⟨⟨_, rfl, by decide, by decide⟩, _, rfl, by decide, by decide, by decide⟩

theorem test_witness_StartValuesStayFixed :
    (∃ t, exec .strobe station = .next t ∧ isReset .strobe = false ∧ t.ctl.findings = station.ctl.findings) ∧
    (∃ t, exec .selftestWaitExpiry waiting = .next t ∧ isReset .selftestWaitExpiry = false ∧
      t.ctl.findings ≠ waiting.ctl.findings) ∧
    ∃ t, exec (.resetCauseEnd .supply) ((station.withCtl { station.ctl with station := .inReset .supplyLow }).withPins
        ⟨.vacant, false, true⟩) = .next t ∧ isReset (.resetCauseEnd .supply) = false ∧ t.ctl.resetCause = .supplyLow :=
  ⟨⟨_, rfl, by decide, by decide⟩, ⟨_, rfl, by decide, by decide⟩, _, rfl, by decide, by decide⟩

theorem test_witness_TickCounterMovesByTicksAlone :
    (∃ t, exec .strobe (station.withTick 0xFFFFFFFF) = .next t ∧ t.tick ≠ (station.withTick 0xFFFFFFFF).tick) ∧
    (∃ t, exec .supplyLow station = .next t ∧ t.tick ≠ station.tick) := ⟨⟨_, rfl, by decide⟩, _, rfl, by decide⟩

theorem test_witness_StartReceivesAndSendsNothing :
    State.reset.ctl.station = .start ∧ Quiet State.reset ∧ actsInStart .hold = false := by decide

/-- The station with a restart pending and a frame that is not a REPLY of a RESTART. -/
def restarting : State := queued 1 .beacon (station.withCtl { station.ctl with restartPending := true })

theorem test_witness_ResetsClearEveryBlock :
    restarting.ctl.restartPending = true ∧ (∀ f ∈ heldFrames restarting, f.restartReply = false) ∧
    notWriting restarting.cal = true := by decide

/-- A station held in a SUPPLY_LOW reset, with the levels at its pins. -/
def inReset (pins : Pins) : State := (station.withCtl { station.ctl with station := .inReset .supplyLow }).withPins pins

theorem test_witness_LastCauseEndingEntersStart :
    ((inReset ⟨.vacant, true, false⟩).ctl.station = .inReset .supplyLow ∧
      (inReset ⟨.vacant, true, false⟩).pins.supplyBelow = false) ∧
    ((inReset ⟨.vacant, false, true⟩).ctl.station = .inReset .supplyLow ∧
      (inReset ⟨.vacant, false, true⟩).pins.resetAsserted = false) ∧
    ((inReset ⟨.vacant, true, true⟩).ctl.station = .inReset .supplyLow ∧
      (inReset ⟨.vacant, true, true⟩).pins.supplyBelow = true ∧
      (inReset ⟨.vacant, true, true⟩).pins.resetAsserted = true) := by decide

theorem test_witness_StartSetsStrapsTablesAndSettings :
    State.reset.ctl.station = .start ∧ State.reset.cal.eraseMarker = false ∧
    (∃ t, exec (.startDone station.straps) State.reset = .next t ∧ tablePresent t.cal 0 = false ∧
      t.setup.presenceUsed = true ∧ State.reset.pins.line = .vacant) ∧
    (∃ t e rest, exec (.startDone station.straps) (State.reset.withCal presentCal) = .next t ∧
      tableEntries t.cal 0 = e :: rest) ∧
    (∃ t, exec (.startDone station.straps) (State.reset.withCal { presentCal with
        tables := presentCal.tables.set 0 (closedTable [setupBytes.set 3 96]) }) = .next t ∧
      t.setup.presenceUsed = false) ∧
    (State.reset.withPins ⟨.occupied, false, false⟩).pins.line = .occupied ∧
    ((State.reset.withCal { presentCal with eraseMarker := true, lock := true }).ctl.station = .start ∧
      (State.reset.withCal { presentCal with eraseMarker := true, lock := true }).cal.eraseMarker = true) :=
  ⟨by decide, by decide, ⟨_, rfl, by decide, by decide, by decide⟩, ⟨_, setupBytes, [], rfl, by decide +kernel⟩,
   ⟨_, rfl, by decide +kernel⟩, by decide, by decide⟩

/-- START loads the working copies of tables 1 to 4, and an interrupted erase leaves them absent. -/
theorem test_start_loads_working_copies :
    (∃ t, exec (.startDone station.straps) (State.reset.withCal presentCal) = .next t ∧
      t.cal.working = { Working.absent with
        gain := [430, 430, 455, 455], band := [(600, 1040)], temps := [(200, 1024)]
        screen := some ⟨100, 1300, -100, 600, 25⟩ }) ∧
    ∃ t, exec (.startDone station.straps) (State.reset.withCal { presentCal with eraseMarker := true }) = .next t ∧
      t.cal.working = .absent ∧ t.cal.eraseMarker = false :=
  ⟨⟨_, rfl, by decide +kernel⟩, _, rfl, by decide +kernel⟩

/-- The station with a request outstanding. -/
def requesting : State := station.withOutstanding (some 1000)

theorem test_witness_StrobeRequestsTheNextSet :
    (working station = true ∧ station.outstanding = none) ∧
    (working requesting = true ∧ requesting.outstanding = some 1000) ∧ State.reset.ctl.station = .start := by decide

theorem test_witness_SampleSetReachesTheDetectors :
    (requesting.outstanding = some 1000 ∧ setPasses 100 (-2) 300 0 4 110 = true) ∧
    (requesting.outstanding = some 1000 ∧ setPasses 100 (-2) 300 0 4 111 = false) ∧
    ((waiting.withOutstanding (some 1000)).outstanding = some 1000 ∧ setPasses 100 (-2) 300 0 4 110 = true ∧
      (waiting.withOutstanding (some 1000)).ctl.station = .selftest) ∧ station.outstanding = none := by decide +kernel

/-- A detector in ACQUIRING with its baseline at 100 counts. -/
def acquiring (settle missing : Nat) : Detector :=
  { Detector.reset with base := some 1600, settle := settle, missing := missing }

theorem test_witness_AcquiringTakesSamples :
    (Detector.reset.state = .acquiring ∧ Detector.reset.base = none) ∧
    ((acquiring 1998 6).state = .acquiring ∧ (acquiring 1998 6).base = some 1600 ∧
      (Setup.builtIn.tOn : Int) ≤ 500 - roundAway 1600 16) ∧
    (499 - roundAway 1600 16 < (Setup.builtIn.tOn : Int) ∧ (acquiring 1998 6).settle < 1999 ∧
      (acquiring 1999 6).settle = 1999) ∧ (acquiring 1998 6).missing < 7 := by decide

theorem test_witness_PulseFromOnsetToRelease :
    (readyAt100.state = .ready ∧ readyAt100.base = some 1600 ∧ 499 - roundAway 1600 16 < (Setup.builtIn.tOn : Int) ∧
      (Setup.builtIn.tOn : Int) ≤ 500 - roundAway 1600 16) ∧
    ((inPulse limitPulse).state = .inPulse limitPulse ∧ (inPulse limitPulse).base = some 0 ∧
      (Setup.builtIn.tOff : Int) ≤ 200 - roundAway 0 16 ∧ limitPulse.saturated = false) ∧
    (readyAt100.missing < 7 ∧ (inPulse { limitPulse with saturated := true }).state =
        .inPulse { limitPulse with saturated := true }) ∧
    (199 - roundAway 0 16 < (Setup.builtIn.tOff : Int) ∧ { limitPulse with below := 2 }.below + 1 < Setup.builtIn.q) ∧
    (199 - roundAway 0 16 < (Setup.builtIn.tOff : Int) ∧ Setup.builtIn.q ≤ limitPulse.below + 1) := by decide

theorem test_witness_FaultComesAtEightAndEndsAtSixtyFour :
    ((acquiring 5 7).state ≠ .fault ∧ (acquiring 5 7).missing = 7) ∧
    ({ inPulse limitPulse with missing := 7 }.state = .inPulse limitPulse ∧
      { inPulse limitPulse with missing := 7 }.missing = 7) ∧
    ((inPulse limitPulse).state = .inPulse limitPulse ∧ { inPulse limitPulse with missing := 6 }.missing < 7) ∧
    (({ readyAt100 with missing := 6 } : Detector).state = .ready ∧ ({ readyAt100 with missing := 6 } : Detector).missing < 7 ∧
      (acquiring 5 6).state = .acquiring ∧ (acquiring 5 6).missing < 7) ∧
    ({ readyAt100 with state := .fault, good := 62 }.state = .fault ∧
      { readyAt100 with state := .fault, good := 62 }.good < 63 ∧
      { readyAt100 with state := .fault, good := 63 }.good = 63) := by decide

theorem test_witness_RezeroRestartsNamedChannels :
    (AtFront 0x38 (rx 0x38 [15] 4) [] (given 0x38 [15] 4 (queued 15 .vehicle station)) ∧
      RoomForReply (given 0x38 [15] 4 (queued 15 .vehicle station)) ∧ (rx 0x38 [15] 4).payload = [15] ∧
      1 ≤ (15 : Byte).toNat ∧ (15 : Byte).toNat ≤ 15) ∧
    (Detector.reset.state = .acquiring ∧ readyAt100.state = .ready ∧ (inPulse limitPulse).state = .inPulse limitPulse ∧
      { readyAt100 with state := .fault }.state = .fault) := by decide

theorem test_witness_PairingSpanIsExact :
    (1000 ≤ 1000 ∧ 1000 ≤ 6000) ∧ (1000 ≤ 6000 ∧ 6000 ≤ 6000) ∧ Machine.sdiff 1000 1000 ≤ 0 ∧
    (∀ x ∈ [((922 : HalfTick), 69414), (921, 69490), (46092, 1389), (46093, 1388)],
      0 < Machine.sdiff x.1 0 ∧ x.2 = (2 * (4000 * 16000) + (Machine.sdiff x.1 0).toNat) / (2 * (Machine.sdiff x.1 0).toNat)) ∧
    (∃ t, exec (.startDone station.straps) State.reset = .next t ∧ tablePresent t.cal 0 = false) ∧
    (∃ t, exec (.startDone station.straps) { State.reset with cal := presentCal } = .next t ∧
      tableEntries t.cal 0 = setupBytes :: []) ∧
    (working station = true ∧ isReset .strobe = false ∧ ∀ x, Instr.strobe ≠ .startDone x) ∧ ∃ t, exec .strobe station = .next t :=
  ⟨by decide, by decide, by decide, by decide, ⟨_, rfl, by decide⟩, ⟨_, rfl, by decide⟩,
    ⟨by decide, by decide, fun _ h => nomatch h⟩, _, rfl⟩

/-- The station with an A-pending list on path L. -/
def pairing (l : List PulseRec) : State := station.withPairer ⟨l, []⟩

/-- The station with that list, with a weighing in flight and seven wheel hits that wait. -/
def pairingBusy (l : List PulseRec) : State :=
  (pairing l).withWeigh ⟨List.replicate 7 (wheel .left 0 20000).hit, some pathLWeighing⟩

theorem test_witness_PairerListsFollowTheWalk :
    (onLineA (record .al 9).chan = true ∧
      ((pairing (List.replicate 7 (record .al 0))).pairer.get (pathOf (record .al 9).chan)).length < 8) ∧
    (onLineA (record .al 9).chan = true ∧ (pairing (List.replicate 8 (record .al 0))).pairer.get
        (pathOf (record .al 9).chan) = record .al 0 :: List.replicate 7 (record .al 0) ∧
      (List.replicate 7 (record .al 0)).length = 7) ∧
    (onLineA (record .bl 23047).chan = false ∧
      (pairing [record .al 0]).pairer.get (pathOf (record .bl 23047).chan) = [record .al 0] ∧
      ∀ x ∈ [record .al 0], pairTest 4000 x.centre (record .bl 23047).centre = .tooOld) ∧
    ((pairing [record .al 0, record .al 23040]).pairer.get (pathOf (record .bl 23047).chan) =
        [record .al 0] ++ record .al 23040 :: [] ∧
      (∀ x ∈ [record .al 0], pairTest 4000 x.centre (record .bl 23047).centre = .tooOld) ∧
      pairTest 4000 (record .al 23040).centre (record .bl 23047).centre = .tooFast) ∧
    ((pairingBusy [record .al 0, record .al 1]).pairer.get (pathOf (record .bl 23047).chan) =
        [record .al 0] ++ record .al 1 :: [] ∧
      (∀ x ∈ [record .al 0], pairTest 4000 x.centre (record .bl 23047).centre = .tooOld) ∧
      pairTest 4000 (record .al 1).centre (record .bl 23047).centre = .pairs 1389 ∧
      (pairingBusy [record .al 0, record .al 1]).weigh.queue.length < 8 ∧
      (pairingBusy [record .al 0, record .al 1]).weigh.inFlight.isSome = true) := by decide

theorem test_witness_WheelHitsQueueOrBypass :
    ((pairingBusy []).weigh.queue.length < 8 ∧ (pairingBusy []).weigh.inFlight.isSome = true) ∧
    (station.weigh.queue = [] ∧ station.weigh.inFlight = none) ∧
    (station.withWeigh ⟨List.replicate 8 (wheel .left 0 20000).hit, some pathLWeighing⟩).weigh.queue.length = 8 := by decide

theorem test_witness_WeighingCompletesAndTheNextBegins :
    (pairingBusy []).weigh.inFlight = some pathLWeighing ∧
    isLater ((pairingBusy []).withTick 1).tick pathLWeighing.begun = true ∧ (pairingBusy []).ctl.station = .run ∧
    (pairingBusy []).former.holding.get (otherPath pathLWeighing.hit.path) = [] ∧
    ((pairingBusy []).former.holding.get pathLWeighing.hit.path).length < 4 ∧
    (station.withWeigh ⟨[(wheel .left 0 20000).hit], some pathLWeighing⟩).weigh.queue = (wheel .left 0 20000).hit :: [] ∧
    ({ truckTables with screen := truckInput.record } : Working).screen = some ⟨100, 1300, -100, 600, 25⟩ ∧
    station.cal.working.screen = none := by decide

theorem test_witness_TemperatureFactorStaysInTheTable :
    (pathLWeighing.temps ≠ [] ∧ pathLWeighing.temps.Pairwise (fun a b => a.1 < b.1)) ∧
    (∃ p : Int × Nat, [p] = [(200, 1024)]) ∧ pathLWeighing.temps.head? = some (0, 1100) ∧
    pathLWeighing.temps.getLast? = some (400, 960) ∧
    (pathLWeighing.temps = [] ++ (0, 1100) :: (200, 1024) :: [(400, 960)] ∧ (0 : Int) ≤ 0 ∧ (199 : Int) < 200) ∧
    (pathLWeighing.gain[chanIndex pathLWeighing.hit.aPulse.chan]? = some 430 ∧
      (2 * (1200000 * 33333 * 430) + 4294967296) / 8589934592 ≤ 65535 ∧
      tempFactor pathLWeighing.temps pathLWeighing.temp = (1000 : Nat)) :=
  ⟨by decide, ⟨_, rfl⟩, by decide, by decide, by decide, by decide⟩

/-- The weighing of the example, its pulses with the flags given. -/
def flagged (aGapped bGapped aClipped bClipped : Bool) : Weighing :=
  { pathLWeighing with hit := ⟨.left, 33333, ⟨.al, 0, 0, 1200000, aClipped, aGapped, false⟩,
      ⟨.bl, 0, 0, 1150000, bClipped, bGapped, false⟩⟩ }

theorem test_witness_WheelLoadAndFlags :
    ((weighingOutcome pathLWeighing).load = some 3884) ∧ ({ pathLWeighing with calibrated := false } : Weighing).calibrated = false ∧ (flagged true true false false).calibrated = true ∧
    (weighable (flagged true true false false).hit.aPulse = false ∧
      weighable (flagged true true false false).hit.bPulse = false) ∧
    (weighable (flagged false true false false).hit.aPulse = true ∧
      weighable (flagged false true false false).hit.bPulse = false) ∧
    (weighable (flagged true false false false).hit.aPulse = false ∧
      weighable (flagged true false false false).hit.bPulse = true) ∧
    ((estimate (flagged false false true false) (flagged false false true false).hit.aPulse).clipped = true ∧
      (estimate (flagged false false true false) (flagged false false true false).hit.bPulse).clipped = false) ∧
    (pathLWeighing.gain[chanIndex pathLWeighing.hit.aPulse.chan]? = some 430 ∧
      estimate { pathLWeighing with gain := [16777215] } pathLWeighing.hit.aPulse = ⟨65535, true⟩) ∧
    ((∀ x ∈ [((600 : Nat), (1040 : Nat)), (1000, 1030)], x.1 < 1400) ∧ (1400 : Nat) ≤ ((1400 : Nat), (1010 : Nat)).1 ∧
      bandFactor pathLWeighing.band 1400 = 1010 ∧ bandFactor pathLWeighing.band 1401 = 1000 ∧
      bandFactor pathLWeighing.band 2501 = 1000) ∧
    ((estimate (flagged false false false true) (flagged false false false true).hit.aPulse).clipped = false ∧
      (estimate (flagged false false false true) (flagged false false false true).hit.bPulse).clipped = true) ∧
    ((estimate (flagged false false true true) (flagged false false true true).hit.aPulse).clipped = true ∧
      (estimate (flagged false false true true) (flagged false false true true).hit.bPulse).clipped = true) ∧
    ((estimate (flagged false false false false) (flagged false false false false).hit.aPulse).clipped = false ∧
      (estimate (flagged false false false false) (flagged false false false false).hit.bPulse).clipped = false) := by decide

theorem test_witness_ProbeReadingsMoveTheirProbe :
    readingPasses 0 275 237 = false ∧ (station.temp.probes.get (readingProbe 0)).state = .absent ∧
    (working (probing (probe .valid [275]) .reset) = true ∧ readingPasses 0 326 (-(71 : Byte)) = true ∧
      ((probing (probe .valid [275]) .reset).temp.probes.get (readingProbe 0)).state ≠ .absent ∧
      readingBad ((probing (probe .valid [275]) .reset).temp.probes.get (readingProbe 0)) (readingOk 0)
        (326#16).toInt = true) ∧
    (readingPasses 0 325 (-(70 : Byte)) = true ∧
      readingBad ((probing (probe .valid [275]) .reset).temp.probes.get (readingProbe 0)) (readingOk 0)
        (325#16).toInt = false) ∧
    ((probe .stale []).state = .stale ∧ 2 ≤ (probe .stale []).bad ∧ { probe .valid [1] with bad := 1 }.bad < 2 ∧
      (probe .waiting []).state = .waiting ∧ (probe .fault []).state = .fault) := by decide +kernel

theorem test_witness_TemperatureTimersExpire :
    (((probing (probe .valid [275]) .reset).withTick 81000).temp.probes.get .p0).state = .valid ∧
    (((probing (probe .valid [275]) .reset).withTick 81000).temp.probes.get .p0).lastGood = some 1000 ∧
    reached ((probing (probe .valid [275]) .reset).withTick 81000).tick (1000 + 80000) = true ∧
    ((probing .reset .reset).temp.freshExpiry = some 1000 ∧ reached (probing .reset .reset).tick 1000 = true) ∧
    ((probing .reset .reset).temp.heldExpiry = some 1000 ∧ liveChoice (probing .reset .reset) = none) := by decide +kernel

theorem test_witness_ReChoiceTakesTheBestSource :
    ((probing (probe .valid [275]) .reset).setup.weighing = some .p0 ∧
      ((probing (probe .valid [275]) .reset).temp.probes.get .p0).state = .valid ∧
      filtered ((probing (probe .valid [275]) .reset).temp.probes.get .p0) = some 275) ∧
    (((probing (probe .stale [275]) (probe .valid [281])).temp.probes.get .p0).state ≠ .valid ∧
      ((probing (probe .stale [275]) (probe .valid [281])).temp.probes.get (otherProbe .p0)).state = .valid ∧
      filtered ((probing (probe .stale [275]) (probe .valid [281])).temp.probes.get (otherProbe .p0)) = some 281) ∧
    (((probing .reset .reset).withPeers [peer6]).temp.probes.p0.state ≠ .valid ∧
      (∃ p ∈ [peer6], isFresh (((probing .reset .reset).withPeers [peer6]).withTick 24900) p = true) ∧
      ∀ p ∈ [peer6], isFresh (((probing .reset .reset).withPeers [peer6]).withTick 24901) p = false) ∧
    ((∀ p ∈ (probing .reset .reset).peers, isFresh (probing .reset .reset) p = false) ∧
      (probing .reset .reset).temp.held = some 270 ∧ isLive (probing .reset .reset).temp.source = false ∧
      isLive .peer = true ∧ station.temp.held = none) :=
  ⟨by decide +kernel, by decide +kernel, ⟨by decide, ⟨peer6, by decide⟩, by decide⟩, by decide⟩

theorem test_witness_WheelsPairOrAreHeld :
    State.reset.ctl.station ≠ .run ∧
    ((holding [heldWheel .builtIn (wheel .left 300000 33333)] []).ctl.station = .run ∧
      (holding [heldWheel .builtIn (wheel .left 300000 33333)] []).former.holding.get
        (otherPath (wheel .right 300072 30303).hit.path) = [] ++ heldWheel .builtIn (wheel .left 300000 33333) :: [] ∧
      wheelsPair (wheel .right 300072 30303) (heldWheel .builtIn (wheel .left 300000 33333)) = true ∧
      wheelsPair (wheel .right 300073 30303) (heldWheel .builtIn (wheel .left 300000 33333)) = false ∧
      wheelsPair (wheel .right 300072 30302) (heldWheel .builtIn (wheel .left 300000 33333)) = false) ∧
    ((∀ x ∈ (holding (List.replicate 3 (heldWheel .builtIn (wheel .left 0 20000))) []).former.holding.get .right,
        wheelsPair (wheel .left 9 20000) x = false) ∧
      ((holding (List.replicate 3 (heldWheel .builtIn (wheel .left 0 20000))) []).former.holding.get .left).length < 4) ∧
    ((holding (List.replicate 4 (heldWheel .builtIn (wheel .left 0 20000))) []).former.holding.get .left =
        heldWheel .builtIn (wheel .left 0 20000) :: List.replicate 3 (heldWheel .builtIn (wheel .left 0 20000)) ∧
      (List.replicate 3 (heldWheel .builtIn (wheel .left 0 20000))).length = 3) := by decide

/-- The left wheel of the car of chapter 4 is declared lone at tick 300,073 and not at 300,072. -/
theorem test_witness_LoneWheelsAreDeclaredOldestFirst :
    lone.former.holding.get .left = [] ++ heldWheel .builtIn (wheel .left 300000 33333) :: [] ∧
    isLater (inHalfTicks lone.tick) (heldWheel .builtIn (wheel .left 300000 33333)).windowEnd = true ∧
    isLater (inHalfTicks 300072) (heldWheel .builtIn (wheel .left 300000 33333)).windowEnd = false ∧
    (∀ x ∈ lone.weigh.queue ++ (lone.weigh.inFlight.map Weighing.hit).toList, x.path = otherPath .left →
      within x.centre (wheel .left 300000 33333).hit.centre 144 = false) ∧
    (∀ a ∈ lone.pairer.get (otherPath .left),
      isLater (inHalfTicks lone.tick) (spanEnd lone.setup.spacing a) = true) ∧
    (lone.withStraps { lone.straps with leftNeighbour := false }).straps.leftNeighbour = false ∧
    ((holding [] [heldWheel .builtIn (wheel .right 300000 33333)]).former.holding.get .right =
        [] ++ heldWheel .builtIn (wheel .right 300000 33333) :: [] ∧ (wheel .right 300000 33333).hit.path = .right ∧
      (lone.withStraps { lone.straps with rightNeighbour := false }).straps.rightNeighbour = false) := by decide

/-- The station with both neighbours and `n` CEDED entries in its merge table. -/
def merged (n : Nat) : State := withMerges neighboured ((List.range n).map fun k => { merge .ceded with slot := k })

/-- The half of that HALF_AXLE as the peer-half table holds it. -/
def peerHalf17 : PeerHalf := peerHalfOf station peer6 (rx 0x10 half17 4)

/-- The station with its peer-half table. -/
def withHalves (l : List PeerHalf) (s : State) : State := s.withFormer { s.former with halves := l }

/-- The vehicle table full, with no OPEN entry. -/
def crowded (s : State) : State := s.withVeh { Assembler.reset with entries := List.replicate 8 vehicle57 }

theorem test_witness_HalfAxlesStartTheirMerge :
    ((wheel .left 0 20000).hit.path = .left ∧ (merged 7).straps.leftNeighbour = true ∧
      cederNeighbour (merged 7) = some peer2 ∧ (merged 7).former.merges.length < 8 ∧
      (queued 15 .reply (merged 7)).link.queue.length < 16 ∧ openEntry (merged 7) = none ∧
      (merged 7).veh.entries.length < 8) ∧
    (station.straps.leftNeighbour = true ∧ cederNeighbour station = none) ∧
    (cederNeighbour (merged 8) = some peer2 ∧ (merged 8).former.merges.length = 8) ∧
    ((wheel .right 0 20000).hit.path = .right ∧ (merged 7).straps.rightNeighbour = true ∧
      ownerNeighbour (merged 7) = some peer6 ∧
      (∀ h ∈ (withHalves [peerHalf17] (merged 7)).former.halves, h.sender = peer6.station →
        within h.centre (wheel .right 200096 20000).hit.centre 160 = true → speedsAgree h.speed 20000 = false)) ∧
    (station.straps.rightNeighbour = true ∧ ownerNeighbour station = none) ∧
    (ownerNeighbour (merged 8) = some peer6 ∧ (merged 8).straps.rightNeighbour = true) ∧
    (cederNeighbour (queued 16 .reply (merged 7)) = some peer2 ∧ (queued 16 .reply (merged 7)).link.queue.length = 16 ∧
      ∀ x ∈ (queued 16 .reply (merged 7)).link.queue, frameClass x.kind = 2 → x.sending = true) ∧
    (cederNeighbour (crowded (merged 7)) = some peer2 ∧ ownerNeighbour (crowded (merged 7)) = some peer6 ∧
      openEntry (crowded (merged 7)) = none ∧ (crowded (merged 7)).veh.entries.length = 8 ∧
      (crowded (merged 7)).former.merges.length < 8 ∧ (crowded (merged 7)).link.queue.length < 16 ∧
      (handAxle (pendingAxle (ownWheel (wheel .left 0 20000)) (some 0) 0) (crowded (merged 7))).2 = none) ∧
    (∀ n ∈ [15, 16],
      ownerNeighbour (queued n .reply (withHalves [peerHalf17] (merged 7))) = some peer6 ∧
      (queued n .reply (withHalves [peerHalf17] (merged 7))).former.halves = [] ++ peerHalf17 :: [] ∧
      peerHalf17.sender = peer6.station ∧ within peerHalf17.centre (wheel .right 200095 20000).hit.centre 160 = true ∧
      speedsAgree peerHalf17.speed (wheel .right 200095 20000).hit.speed = true ∧
      (∀ v ∈ (queued n .reply (merged 7)).veh.entries, v.number ≠ (queued n .reply (merged 7)).veh.counter) ∧
      (∀ x ∈ (queued n .reply (merged 7)).link.queue, frameClass x.kind = 2 → x.sending = true) ∧
      ∀ x ∈ (queued n .reply (merged 7)).link.queue, x.kind = .vehicle → x.sending = true) :=
  ⟨by decide, by decide, by decide, by decide, by decide, by decide, by decide, by decide, by decide⟩

/-- A reference that a ceder entry holds is passed over (R69), and a wheel that fits a half already received is MERGED at once
(R75, R76). -/
theorem test_half_axle_reference_and_match :
    nextRef { (merged 2).former with refCounter := 17 } = 18 ∧
    (takeLone (wheel .right 200095 20000) (withHalves [peerHalf17] neighboured)).former.merges.map MergeEntry.state = [.taken] ∧
    (takeLone (wheel .right 200096 20000) (withHalves [peerHalf17] neighboured)).former.merges.map MergeEntry.state =
      [.waiting] := by decide

/-- The merging station with its vehicle in CLOSING, and the other merge-table entries given. -/
def closing (state : MergeState) (others : List MergeEntry) : State :=
  (withMerges (merging state) (merge state :: others)).withVeh { Assembler.reset with
    entries := [{ vehicle5 with state := .closing, cause := some .gap, gapExpiry := none }], counter := 6 }

/-- That vehicle. -/
def closing5 : Vehicle := { vehicle5 with state := .closing, cause := some .gap, gapExpiry := none }

/-- Another entry of that vehicle. -/
def otherMerge (state : MergeState) : MergeEntry := { merge state with slot := 1, ref := some 18 }

/-- A vehicle in CLOSING leaves that state at the confirmation of its last merge, is classed and has its frame queued. -/
theorem test_last_confirmation_closes :
    ∃ t, exec .mergeCedeReceived (withRx (rx 0x03 [17] 4) (closing .taken [otherMerge .ceded])) = .next t ∧
      t.veh.entries.map Vehicle.state = [.queued] ∧ t.veh.closingOrder = [5] ∧
      t.link.queue.map TxFrame.kind = [.vehicle] := ⟨_, rfl, by decide⟩

/-- The same vehicle stays in CLOSING while another of its merges is open. -/
theorem test_open_merge_keeps_closing :
    ∃ t, exec .mergeCedeReceived (withRx (rx 0x03 [17] 4) (closing .taken [otherMerge .waiting])) = .next t ∧
      t.veh.entries.map Vehicle.state = [.closing] ∧ t.veh.closingOrder = [] := ⟨_, rfl, by decide⟩

theorem test_witness_MergeWaitsEndAtTheirDeadline :
    ∀ state ∈ [MergeState.ceded, .offered, .waiting, .taken],
      merge state ∈ (merging state).former.merges ∧ ((merging state).former.merges.map MergeEntry.slot).Nodup ∧
      reached (merging state).tick (merge state).deadline = true ∧ NoneLeavesClosing (merge state) (merging state) ∧
      (merge state).state = state ∧
      NoneLeavesClosing (merge state) (closing state [otherMerge .waiting]) ∧
      merge state ∈ (closing state [otherMerge .ceded]).former.merges ∧
      ((closing state [otherMerge .ceded]).former.merges.map MergeEntry.slot).Nodup ∧
      LastWaitOf (merge state) closing5 [] [] (closing state [otherMerge .ceded]) ∧ closing5.axles ≠ [] := by decide

/-- The merging station with both neighbours in its peer table. -/
def neighbours (state : MergeState) : State := (merging state).withPeers [peer6, peer2]

/-- Eight halves of references 0 to 7. -/
def eightHalves : List PeerHalf := (List.range 8).map fun k => { peerHalf17 with ref := BitVec.ofNat 8 k }

theorem test_witness_PeerHalvesEnterMatchAndExpire :
    (peerHalfOf station peer6 (rx 0x10 half17 4) ∈
        (station.withFormer { Former.reset with halves := [peerHalfOf station peer6 (rx 0x10 half17 4)] }).former.halves ∧
      reached (4200 : Tick) (peerHalfOf station peer6 (rx 0x10 half17 4)).expiry = true) ∧
    (AtFront 0x10 (rx 0x10 half17 4) [] (given 0x10 half17 4 station) ∧
      ownerNeighbour (given 0x10 half17 4 station) = none) ∧
    (AtFront 0x10 (rx 0x10 half17 4) [] (given 0x10 half17 4 neighboured) ∧
      (given 0x10 half17 4 neighboured).ctl.station = .run ∧ halfMalformed (rx 0x10 half17 4).payload = false ∧
      byteAt (rx 0x10 half17 4).payload 1 = 0 ∧ ownerNeighbour (given 0x10 half17 4 neighboured) = some peer6 ∧
      peer6.station = (rx 0x10 half17 4).source ∧ (given 0x10 half17 4 neighboured).former.halves = [] ∧
      (∀ e ∈ (given 0x10 half17 4 neighboured).former.merges, e.state ≠ .waiting)) ∧
    (AtFront 0x10 (rx 0x10 half17 4) [] (given 0x10 half17 4 (neighbours .waiting)) ∧
      ownerNeighbour (given 0x10 half17 4 (neighbours .waiting)) = some peer6 ∧
      (given 0x10 half17 4 (neighbours .waiting)).former.merges = [] ++ merge .waiting :: [] ∧
      ((given 0x10 half17 4 (neighbours .waiting)).former.merges.map MergeEntry.slot).Nodup ∧
      (given 0x10 half17 4 (neighbours .waiting)).veh.entries = [] ++ vehicle5 :: [] ∧
      vehicle5.number = (merge .waiting).vehicle ∧ vehicle5.axles.map Axle.link = [some (merge .waiting).slot] ∧
      (given 0x10 half17 4 (neighbours .waiting)).former.halves = [] ∧
      (given 0x10 half17 4 (neighbours .waiting)).link.queue = [] ∧
      0 ≤ sdiff (1003 : HalfTick) 1000 ∧ sdiff (1000 : HalfTick) 1003 < 0 ∧
      (merge .waiting).partner = (rx 0x10 half17 4).source ∧
      within (BitVec.ofNat 32 (numAt half17 2 4) - (peer6.offset + peer6.offset)) (merge .waiting).own.time 160 = true ∧
      speedsAgree ((2 * (numAt half17 6 2 * 1000) + 36) / 72) (merge .waiting).own.speed = true) ∧
    (AtFront 0x10 (rx 0x10 half17 4) [] (given 0x10 half17 4 (withHalves [peerHalf17] neighboured)) ∧
      (given 0x10 half17 4 (withHalves [peerHalf17] neighboured)).former.halves = [] ++ peerHalf17 :: [] ∧
      peerHalf17.sender = (rx 0x10 half17 4).source ∧ peerHalf17.ref = byteAt (rx 0x10 half17 4).payload 0) ∧
    (AtFront 0x10 (rx 0x10 half17 4) [] (given 0x10 half17 4 (withHalves eightHalves neighboured)) ∧
      (given 0x10 half17 4 (withHalves eightHalves neighboured)).former.halves = { peerHalf17 with ref := 0 } :: eightHalves.tail ∧
      eightHalves.tail.length = 7 ∧ ∀ x ∈ eightHalves, x.sender = 6 → x.ref ≠ 17) ∧
    (AtFront 0x10 (rx 0x10 half17 4) [] (given 0x10 half17 4 (queued 16 .reply (neighbours .waiting))) ∧
      (given 0x10 half17 4 (queued 16 .reply (neighbours .waiting))).link.queue.length = 16 ∧
      (∀ x ∈ (queued 16 .reply (neighbours .waiting)).link.queue, frameClass x.kind = 2 → x.sending = true) ∧
      (∀ x ∈ (queued 16 .reply (neighbours .waiting)).link.queue, x.kind = .vehicle → x.sending = true) ∧
      NoneLeavesClosing (merge .waiting) (given 0x10 half17 4 (queued 16 .reply (neighbours .waiting)))) ∧
    (AtFront 0x10 (rx 0x10 half17 4) []
        (given 0x10 half17 4 (queued 16 .reply ((closing .waiting [otherMerge .ceded]).withPeers [peer6, peer2]))) ∧
      LastWaitOf (merge .waiting) closing5 [] []
        (given 0x10 half17 4 (queued 16 .reply ((closing .waiting [otherMerge .ceded]).withPeers [peer6, peer2]))) ∧
      closing5.axles ≠ []) :=
  ⟨by decide, by decide, by decide, by decide, by decide, by decide, by decide, by decide⟩

/-- At a full peer-half table the oldest half is displaced and counted (R74). -/
theorem test_full_peer_half_table :
    ∃ t, exec .halfAxleReceived (given 0x10 half17 4 (withHalves eightHalves neighboured)) = .next t ∧
      t.former.halves.map PeerHalf.ref = [1, 2, 3, 4, 5, 6, 7, 17] ∧ t.counters.halvesDropped = 1 := ⟨_, rfl, by decide⟩

theorem test_witness_MergeTakeIsCededOrRefused :
    (∀ state ∈ [MergeState.offered, .ceded],
      AtFront 0x02 (rx 0x02 [17] 4) [] (given 0x02 [17] 4 (merging state)) ∧ RoomForReply (given 0x02 [17] 4 (merging state)) ∧
      (given 0x02 [17] 4 (merging state)).former.merges = [merge state] ∧ (merge state).state = state ∧
      (merge state).ref = some 17 ∧ (merge state).partner = (rx 0x02 [17] 4).source) ∧
    NoneLeavesClosing (merge .offered) (given 0x02 [17] 4 (merging .offered)) ∧
    NoneLeavesClosing (merge .offered) (given 0x02 [17] 4 (closing .offered [otherMerge .waiting])) ∧
    (LastWaitOf (merge .offered) closing5 [] [] (given 0x02 [17] 4 (closing .offered [])) ∧
      (closing5.axles.filter fun a => !decide (a.link = some 0)) = []) ∧
    (LastWaitOf (merge .offered) { closing5 with axles := closing5.axles ++ [axleAt 400001 20000 1 1] } [] []
        (given 0x02 [17] 4 ((closing .offered []).withVeh { Assembler.reset with
          entries := [{ closing5 with axles := closing5.axles ++ [axleAt 400001 20000 1 1] }] })) ∧
      ((closing5.axles ++ [axleAt 400001 20000 1 1]).filter fun a => !decide (a.link = some 0)) ≠ []) ∧
    (AtFront 0x02 (rx 0x02 [18] 4) [] (given 0x02 [18] 4 (merging .offered)) ∧
      (∀ x ∈ (given 0x02 [18] 4 (merging .offered)).former.merges, (x.state = .offered ∨ x.state = .ceded) →
        x.ref = some 18 → x.partner ≠ (rx 0x02 [18] 4).source)) ∧
    (AtFront 0x02 (rx 0x02 [17, 0] 4) [] (given 0x02 [17, 0] 4 (merging .offered)) ∧ (rx 0x02 [17, 0] 4).payload.length ≠ 1) :=
  ⟨by decide, by decide, by decide, by decide, by decide, by decide, by decide⟩

theorem test_witness_CedeConfirmsAndRefuseReverts :
    (∀ kind ∈ [0x03#8, 0x04#8],
      AtFront kind (rx kind [17] 4) [] (given kind [17] 4 (merging .taken)) ∧
      (given kind [17] 4 (merging .taken)).former.merges = [merge .taken] ∧ (merge .taken).ref = some 17 ∧
      (merge .taken).partner = (rx kind [17] 4).source ∧
      (given kind [17] 4 (merging .taken)).veh.entries = [vehicle5] ∧ vehicle5.number = (merge .taken).vehicle ∧
      vehicle5.axles.map Axle.link = [some (merge .taken).slot]) ∧
    (∀ kind ∈ [0x03#8, 0x04#8], NoneLeavesClosing (merge .taken) (given kind [17] 4 (merging .taken))) ∧
    (∀ kind ∈ [0x03#8, 0x04#8],
      NoneLeavesClosing (merge .taken) (given kind [17] 4 (closing .taken [otherMerge .waiting]))) ∧
    (∀ kind ∈ [0x03#8, 0x04#8],
      LastWaitOf (merge .taken) closing5 [] [] (given kind [17] 4 (closing .taken [otherMerge .ceded]))) ∧
    (∀ kind ∈ [0x03#8, 0x04#8],
      (∀ x ∈ (given kind [17] 4 (closing .taken [otherMerge .ceded])).former.merges,
        x.state = .taken → x.ref = some 17 → x.partner = 6 → x = merge .taken)) ∧
    (∀ kind ∈ [0x03#8, 0x04#8],
      AtFront kind (rx kind [17] 4) [] (given kind [17] 4 (merging .waiting)) ∧
      (∀ x ∈ (given kind [17] 4 (merging .waiting)).former.merges, x.state = .taken → x.ref = some 17 → x.partner ≠ 6)) ∧
    (∀ kind ∈ [0x03#8, 0x04#8], AtFront kind (rx kind [] 4) [] (given kind [] 4 (merging .taken)) ∧
      (rx kind [] 4).payload.length ≠ 1) :=
  ⟨by decide, by decide, by decide, by decide, by decide, by decide, by decide⟩

/-- A vehicle of twelve axles, all at one time. -/
def vehicle12 : Vehicle := { vehicle5 with axles := List.replicate 12 (axleAt 400000 20000 0 0) }

theorem test_witness_AxlesJoinOrOpenVehicles :
    (openEntry station = none ∧ station.veh.entries.length < 8) ∧
    (openEntry (station.withVeh { Assembler.reset with entries := List.replicate 8 vehicle57 }) = none ∧
      (station.withVeh { Assembler.reset with entries := List.replicate 8 vehicle57 }).veh.entries.length = 8) ∧
    (openEntry (carrying vehicle5) = some vehicle5 ∧
      (2 * ((20000 + vehicle5.lastSpeed) * (sdiff 409600 vehicle5.lastTime).natAbs) + 32000) / 64000 ≤
        (carrying vehicle5).setup.maxSpacing ∧
      ((24000 : Int) - vehicle5.firstSpeed).natAbs * 5 ≤ vehicle5.firstSpeed ∧ vehicle5.axles.length < 12 ∧
      isLater 400001 vehicle5.lastTime = true ∧ isLater 400000 vehicle5.lastTime = false) ∧
    (openEntry (carrying vehicle12) = some vehicle12 ∧ vehicle12.axles.length = 12) ∧
    ((carrying vehicle5).setup.maxSpacing < 65535 ∧ (carrying vehicle5).setup.maxSpacing <
      (2 * ((20000 + vehicle5.lastSpeed) * (sdiff 409604 vehicle5.lastTime).natAbs) + 32000) / 64000) ∧
    vehicle5.firstSpeed < ((24001 : Int) - vehicle5.firstSpeed).natAbs * 5 := by decide

theorem test_witness_GapTimerClosesTheVehicle :
    (∀ state ∈ [MergeState.ceded, .taken],
      (merging state).veh.entries = [] ++ vehicle5 :: [] ∧ vehicle5.state = .opened ∧ vehicle5.gapExpiry = some 1000 ∧
      reached (merging state).tick 1000 = true) ∧
    ((∀ m ∈ (merging .ceded).former.merges, m.vehicle = vehicle5.number → m.state = .ceded) ∧ vehicle5.axles ≠ []) ∧
    ({ vehicle5 with axles := [] } : Vehicle).axles = [] ∧
    (∃ m ∈ (merging .taken).former.merges, m.vehicle = vehicle5.number ∧ m.state ≠ .ceded) ∧
    (∃ t, exec .gapTimerExpiry (carrying vehicle5) = .next t ∧ (carrying vehicle5).ctl.station = .run ∧ laneClear t = true) ∧
    ∃ t, exec .gapTimerExpiry (carrying { vehicle5 with axles := [] }) = .next t ∧ laneClear t = true :=
  ⟨by decide, by decide, by decide, ⟨merge .taken, by decide⟩, ⟨_, rfl, by decide⟩, _, rfl, by decide⟩

theorem test_witness_PresenceFollowsTheLine :
    ((withPresence station .vacant).pins.line = .vacant ∧ (withPresence station .vacant).veh.presence = some .vacant ∧
      (withPresence station (.vacating 1000)).veh.presence = some (.vacating 1000) ∧ station.veh.presence = none) ∧
    ((withPresence (station.withPins ⟨.occupied, false, false⟩) .stuck).pins.line = .occupied ∧
      (withPresence station .stuck).veh.presence = some .stuck) ∧
    ((withPresence (carrying vehicle5) (.vacating 1000)).veh.presence = some (.vacating 1000) ∧
      openCount (withPresence (carrying vehicle5) (.vacating 1000)) ≤ 1 ∧ openEntry (withPresence station .vacant) = none) ∧
    ((withPresence station (.occupied 1000)).veh.presence = some (.occupied 1000) ∧
      reached (withPresence station (.occupied 1000)).tick 1000 = true) ∧
    (∃ t, exec .debounceExpiry (withPresence station (.vacating 1000)) = .next t ∧ laneClear t = true) ∧
    (∃ t, exec .stuckExpiry (withPresence station (.occupied 1000)) = .next t ∧ laneClear t = true) ∧
    (∃ t, endsWithLaneTest .mergeTakeReceived = true ∧
      exec .mergeTakeReceived (given 0x02 [17] 4 (closing .offered [])) = .next t ∧
      RunStarts (given 0x02 [17] 4 (closing .offered [])) t ∧ t.veh.runCount = 10) ∧
    ∃ t, endsWithLaneTest (.loneDeclaration .left) = true ∧ exec (.loneDeclaration .left) lone = .next t ∧
      ¬RunStarts lone t :=
  ⟨by decide, by decide, by decide, by decide, ⟨_, rfl, by decide⟩, ⟨_, rfl, by decide⟩, ⟨_, rfl, rfl, by decide⟩,
    _, rfl, rfl, by decide⟩

theorem test_witness_BeaconTimerFormsBeaconsAndReports :
    (queued 13 .vehicle station).ctl.beaconExpiry = some 1000 ∧ reached (queued 13 .vehicle station).tick 1000 = true ∧
    (∀ f ∈ (queued 13 .vehicle station).link.queue, f.kind = .beacon → f.sending = true) ∧
    (queued 13 .vehicle station).link.queue.length ≤ 13 ∧ (queued 13 .vehicle station).setup.interval ≠ 0 ∧
    (queued 13 .vehicle station).setup.interval ≤ 59 + 1 := by decide

theorem test_witness_SilentSelftestEndsInRun :
    waiting.ctl.station = .selftest ∧ waiting.ctl.waitExpiry = some 1000 ∧ reached waiting.tick 1000 = true ∧
    waiting.link.queue = [] ∧ waiting.setup.interval ≠ 1 ∧ waiting.ctl.reportCount = 0 ∧ waiting.veh.runCount = 0 ∧
    waiting.det.al.state ≠ .fault := by decide

theorem test_witness_FirstMatchingEntryGivesTheClass :
    totalAxles vehicle5 = 1 ∧ 10 ≤ totalAxles { vehicle5 with lead := 9 } ∧
    (∃ c before, 2 ≤ totalAxles (truck 5900 5810 .probe) ∧ totalAxles (truck 5900 5810 .probe) ≤ 9 ∧
      truckTables.pages[totalAxles (truck 5900 5810 .probe) - 2]? = some (before ++ c :: []) ∧
      (∀ x ∈ before, entryMatches (truck 5900 5810 .probe).axles x = false) ∧
      entryMatches (truck 5900 5810 .probe).axles c = true) ∧
    (2 ≤ totalAxles vehicle57 ∧ totalAxles vehicle57 ≤ 9 ∧ Working.absent.pages[totalAxles vehicle57 - 2]? = some [] ∧
      ∀ x ∈ ([] : List ClassEntry), entryMatches vehicle57.axles x = false) :=
  ⟨by decide, by decide,
   ⟨⟨9, [(30, 45), (12, 15), (30, 90), (12, 15)], 0, 1000, 115, 400⟩,
    [⟨10, [(30, 45), (12, 15), (60, 90), (12, 15)], 150, 1000, 115, 440⟩], by decide⟩, by decide⟩

/-- The station calibrated and locked, with the tables of the truck's example. -/
def screening : State :=
  station.withCal { presentCal with lock := true, working := { truckTables with screen := truckInput.record } }

/-- Each of the thirteen reasons arises: the truck of the example with one condition after another failing. -/
theorem test_thirteen_reasons :
    ((fun r => Screening.notScreened r) <$> [Reason.notLocked, .notCalibrated, .screenOff, .cls, .speedBand, .tempSource,
      .tempBand, .part, .unconfirmed, .clipped, .disagree, .notWeighed, .chain]) =
    (let t := truck 5900 5810 .probe
     let flag := fun g => { t with axles := t.axles.map g }
     let wheelFlag := fun (g : WheelData → WheelData) => flag fun a => { a with right := a.right.map g }
     [classify truckTables { truckInput with record := none } t, classify truckTables truckInput { t with uncalibrated := true },
      classify truckTables { truckInput with screenOn := false } t, classify truckTables truckInput { t with lead := 12 },
      classify truckTables truckInput { t with firstSpeed := 36126 }, classify truckTables truckInput (truck 5900 5810 .default),
      classify truckTables { truckInput with record := some ⟨100, 1300, 244, 600, 25⟩ } t,
      classify truckTables truckInput (flag fun a => { a with kind := .part }),
      classify truckTables truckInput (flag fun a => { a with unconfirmed := true }),
      classify truckTables truckInput (wheelFlag fun w => { w with clipped := true }),
      classify truckTables truckInput (wheelFlag fun w => { w with disagree := true }),
      classify truckTables truckInput (wheelFlag fun w => { w with notWeighed := true }),
      classify truckTables truckInput { t with truncated := true }].map Classed.screening) := by decide +kernel

/-- The conditions of the truck of the example all hold, with a limit exceeded and without. -/
theorem test_truck_passes_every_condition (l r : Nat) (h : l = 5900 ∧ r = 5810 ∨ l = 1000 ∧ r = 1000) :
    ∀ x ∈ screeningConditions truckTables truckInput (truck l r .probe), x.1 := by
  rcases h with ⟨rfl, rfl⟩ | ⟨rfl, rfl⟩ <;>
    simp only [screeningConditions, List.forall_mem_cons, List.not_mem_nil, false_implies, implies_true, and_true] <;>
    exact ⟨by decide, by decide, by decide, by decide, ⟨_, rfl, by decide⟩, by decide, ⟨_, _, rfl, rfl, by decide⟩, by decide,
      by decide, by decide, by decide, by decide, by decide⟩

/-- That station with an OVERLOAD frame in the immediate slot and `n` replies in its queue. -/
def noticing (n : Nat) : State := withImmediate (queued n .reply screening) (some (txFrame .overload 0 true))

theorem test_witness_OverloadNeedsEveryCondition :
    (∃ before c behind, screeningConditions truckTables truckInput (truck 5900 5810 .default) =
      before ++ (c, Reason.tempSource) :: behind ∧ (∀ x ∈ before, x.1) ∧ ¬c) ∧
    (∀ x ∈ screeningConditions truckTables truckInput (truck 5900 5810 .probe), x.1) ∧
    (classify truckTables truckInput (truck 5900 5810 .probe)).screening = .overload ∧
    ({ truckInput with locked := false } : ScreenInput).locked = false ∧
    (truckInput.locked = true ∧ truckInput.record.isSome = true ∧
      ({ truckInput with calibrated := false } : ScreenInput).calibrated = false) ∧
    (truckInput.calibrated = true ∧ (truck 5900 5810 .probe).uncalibrated = false ∧
      ({ truckInput with screenOn := false } : ScreenInput).screenOn = false) ∧
    (classify station.cal.working (screenInput station) vehicle57).screening ≠ .overload ∧
    ((classify screening.cal.working (screenInput screening) (truck 5900 5810 .probe)).screening = .overload ∧
      screening.link.immediate = none) ∧
    (∀ n ∈ [15, 16],
      (noticing n).link.immediate = some (txFrame .overload 0 true) ∧ (noticing n).link.queue.length = n ∧
      (∀ x ∈ (noticing n).link.queue, frameClass x.kind = 2 → x.sending = true) ∧
      (∀ x ∈ (noticing n).link.queue, x.kind = .vehicle → x.sending = true)) ∧
    (∀ n ∈ [15, 16],
      (classify (noticing n).cal.working (screenInput (noticing n)) (truck 5900 5810 .probe)).screening = .overload) :=
  ⟨⟨(screeningConditions truckTables truckInput (truck 5900 5810 .default)).take 5, _,
      (screeningConditions truckTables truckInput (truck 5900 5810 .default)).drop 6, rfl,
      by
        simp only [screeningConditions, List.take, List.forall_mem_cons, List.not_mem_nil, false_implies, implies_true, and_true]
        exact ⟨by decide, by decide, by decide, by decide, _, rfl, by decide⟩,
      by decide⟩,
    test_truck_passes_every_condition 5900 5810 (.inl ⟨rfl, rfl⟩), by decide, by decide, by decide, by decide, by decide,
    by decide, by decide, by decide⟩

theorem test_witness_BeaconsReachThePeerTable :
    (AtFront 0x20 (rx 0x20 (beacon6.set 2 96) 255) [] (given 0x20 (beacon6.set 2 96) 255 station) ∧
      beaconMalformed (rx 0x20 (beacon6.set 2 96) 255).payload = true) ∧
    (∀ source ∈ [255#8, 4#8],
      AtFront 0x20 { rx 0x20 beacon6 255 with source := source } [] (withRx { rx 0x20 beacon6 255 with source := source } station) ∧
      (source = 255 ∨ source = ownNumber station)) ∧
    (AtFront 0x20 (rx 0x20 beacon6 255) [] (given 0x20 beacon6 255 station) ∧
      beaconMalformed (rx 0x20 beacon6 255).payload = false ∧ (rx 0x20 beacon6 255).source ≠ 255 ∧
      (rx 0x20 beacon6 255).source ≠ ownNumber station) ∧
    (∀ l ∈ [[peer2, peer6], fifteen .lost, fifteen .heard, (fifteen .heard).drop 1],
      AtFront 0x20 (rx 0x20 beacon6 255) [] (given 0x20 beacon6 255 (station.withPeers l)) ∧
      beaconMalformed (rx 0x20 beacon6 255).payload = false ∧ (rx 0x20 beacon6 255).source ≠ 255 ∧
      (rx 0x20 beacon6 255).source ≠ ownNumber (given 0x20 beacon6 255 (station.withPeers l)) ∧
      (given 0x20 beacon6 255 (station.withPeers l)).peers = l) ∧
    ((∀ x ∈ [peer2], x.station ≠ (rx 0x20 beacon6 255).source) ∧ peer6.station = (rx 0x20 beacon6 255).source) ∧
    ((∀ x ∈ (fifteen .heard).drop 1, x.station ≠ (rx 0x20 beacon6 255).source) ∧ ((fifteen .heard).drop 1).length = 14) ∧
    (fifteen .lost = [] ++ { peer6 with station := 16, state := .lost } :: (fifteen .lost).drop 1 ∧
      (∀ x ∈ fifteen .lost, x.station ≠ (rx 0x20 beacon6 255).source) ∧ (fifteen .lost).length = 15 ∧
      (∀ x ∈ (fifteen .lost).drop 1, x.state = .lost →
        sdiff (given 0x20 beacon6 255 (station.withPeers (fifteen .lost))).tick x.last <
          sdiff (given 0x20 beacon6 255 (station.withPeers (fifteen .lost))).tick peer6.last)) ∧
    ((∀ x ∈ fifteen .heard, x.station ≠ (rx 0x20 beacon6 255).source) ∧ (fifteen .heard).length = 15 ∧
      ∀ x ∈ fifteen .heard, x.state ≠ .lost) := by
  decide

/-- A beacon whose offset is that of the entry, and one whose offset lies 3 ticks from it. -/
theorem test_witness_PeerEntriesFollowTheirBeacons :
    (∀ state ∈ [PeerState.heard, .drifting, .aligned], ∀ stable ∈ [2, 3, 4],
      ({ peer6 with state := state, stable := stable } : Peer).state = state ∧
      (sdiff (BitVec.ofNat 32 (numAt (rx 0x20 beacon6 255).payload 4 4) - (rx 0x20 beacon6 255).stamp)
        ({ peer6 with state := state, stable := stable } : Peer).offset).natAbs ≤ 2 ∧
      2 < (sdiff (BitVec.ofNat 32 (numAt (rx 0x20 (beacon6.set 7 49) 255).payload 4 4) - (rx 0x20 beacon6 255).stamp)
        ({ peer6 with state := state, stable := stable } : Peer).offset).natAbs) ∧
    ((station.withPeers [peer2, peer6]).peers = [peer2] ++ peer6 :: [] ∧ (∀ x ∈ [peer2], x.station ≠ peer6.station) ∧
      peer6.state ≠ .lost ∧ reached (28900 : Tick) peer6.lossExpiry = true) ∧
    (∀ p ∈ (station.withPeers [peer2, peer6]).peers, p.station = 6 → p.state = .lost ∨
      reached (station.withPeers [peer2, peer6]).tick p.lossExpiry = false) ∧
    beaconMalformed (rx 0x20 beacon6 255).payload = false ∧
    ({ peer6 with state := .lost } : Peer).state = .lost := by decide

theorem test_witness_FramesAreReadAndJudged :
    (working station = true ∧ transmitting station = false ∧ station.link.rxPath = .idle) ∧
    (station.withLink { station.link with rxPath := .waitQuiet }).link.rxPath = .waitQuiet ∧
    (working reading = true ∧ transmitting reading = false ∧ reading.link.rxPath = .reading 990 ∧
      (List.replicate 80 (0 : Byte)).length ≤ 80) ∧
    (State.reset.link.rxPath ≠ .idle ∧ working State.reset = false ∧
      transmitting (sendingState none [txFrame .reply 0 true]) = true ∧
      80 < (List.replicate 81 (0 : Byte)).length ∧
      sendingFrame (sendingState none [txFrame .reply 0 true]) = some (txFrame .reply 0 true)) ∧
    (deliver 0x32 (given 0x32 [] 4 station) = some (rx 0x32 [] 4, taken [] (given 0x32 [] 4 station)) ∧
      deliver 0x31 (given 0x32 [] 4 station) = none ∧ deliver 0x32 station = none) ∧
    crc16 (coveredBytes 0x20 6 255 beacon6) ≠ 0 ∧
    ((5 : Byte) ≠ ownNumber reading ∧ (5 : Byte) ≠ 255) ∧ (0x12 : Byte) ∉ consumedKinds ∧
    ((255 : Byte) = 255 ∧ (0x20 : Byte) ∈ consumedKinds) ∧
    ((reading.withLink { reading.link with rxQueue := List.replicate 7 (rx 0x32 [] 4) }).link.rxQueue.length < 8 ∧
      (reading.withLink { reading.link with rxQueue := List.replicate 8 (rx 0x32 [] 4) }).link.rxQueue.length = 8) ∧
    ∀ stamp, station.link.rxPath ≠ .reading stamp :=
  ⟨by decide, by decide, by decide, by decide, by decide, by decide +kernel, by decide, by decide, by decide, by decide,
    fun _ h => nomatch h⟩

/-- The station with a queue, and a round of which a slot has begun. -/
def inRound (immediate : Option TxFrame) (q : List TxFrame) (slot : Nat) : State :=
  (sendingState immediate q).withLink { (sendingState immediate q).link with round := some ⟨slot, false⟩ }

theorem test_witness_SlotsStartTheCandidate :
    (working (inRound (some (txFrame .overload 0 false)) [] 3) = true ∧
      transmitting (inRound (some (txFrame .overload 0 false)) [] 3) = false ∧
      (inRound (some (txFrame .overload 0 false)) [] 3).link.rxPath = .idle ∧
      nextRound (inRound (some (txFrame .overload 0 false)) [] 3).link = ⟨4, false⟩ ∧
      startSlot 4 false (txFrame .overload 0 false) = 4 ∧ (4 : Nat) ≠ 5) ∧
    ((inRound none [] 318).link.round = some ⟨318, false⟩ ∧ nextRound (inRound none [] 319).link = ⟨0, false⟩ ∧
      ∀ f ∈ (inRound none [] 318).link.queue, f.kind = .vehicle ∧ (inRound none [] 318).link.hold.isSome = true) ∧
    (transmitting (inRound none [txFrame .start 0 false, txFrame .vehicle 0 false, txFrame .reply 0 false] 19) = false ∧
      (inRound none [txFrame .start 0 false, txFrame .vehicle 0 false, txFrame .reply 0 false] 19).link.queue =
        [txFrame .start 0 false] ++ txFrame .vehicle 0 false :: [txFrame .reply 0 false] ∧
      station.link.hold = none ∧ (∀ x ∈ [txFrame .start 0 false], txRank .vehicle < txRank x.kind) ∧
      (∀ x ∈ [txFrame .reply 0 false], txRank .vehicle ≤ txRank x.kind) ∧
      startSlot 4 false (txFrame .vehicle 0 false) = 20) := by decide

theorem test_witness_StartSlotsAndBackoffGenerator :
    (frameClass .overload = 0 ∧ frameClass .vehicle = 1 ∧ frameClass .beacon = 2 ∧
      ({ txFrame .beacon 0 false with backoff := 15 } : TxFrame).backoff ≤ 15) ∧
    (4 : BitVec 4) ≠ 6 ∧ frameClass .overload < frameClass .vehicle ∧ (1 : BitVec 16) ≠ 0 ∧
    (∃ t, exec .collision (sendingState none [txFrame .reply 6 true]) = .next t ∧
      sendingFrame (sendingState none [txFrame .reply 6 true]) = some (txFrame .reply 6 true) ∧
      t.link.lfsr = advanceLfsr (sendingState none [txFrame .reply 6 true]).link.lfsr) ∧
    (∃ t, exec .collision (sendingState none [txFrame .reply 7 true]) = .next t ∧
      sendingFrame (sendingState none [txFrame .reply 7 true]) = some (txFrame .reply 7 true) ∧
      t.link.lfsr = (sendingState none [txFrame .reply 7 true]).link.lfsr) ∧
    (∃ t, exec (.startDone station.straps) State.reset = .next t ∧ State.reset.ctl.station = .start) ∧
    ∃ t, exec .strobe station = .next t :=
  ⟨by decide, by decide, by decide, by decide, ⟨_, rfl, by decide⟩, ⟨_, rfl, by decide⟩, ⟨_, rfl, by decide⟩, _, rfl⟩

/-- A VEHICLE frame of vehicle 57 in transmission, with seven collisions. -/
def sendingVehicle : TxFrame := { txFrame .vehicle 7 true with vehicle := some 57 }

/-- The station with vehicle 57 QUEUED, its frame in transmission and fifteen others behind it. -/
def vehicleSending : State :=
  (sendingState none ([] ++ sendingVehicle :: List.replicate 15 (txFrame .reply 0 false))).withVeh
    { Assembler.reset with entries := [{ vehicle57 with state := .queued }], closingOrder := [57] }

/-- Two READY vehicles, the one of the later number closed first. -/
def twoReady (s : State) : State :=
  s.withVeh { Assembler.reset with entries := [vehicle57, { vehicle57 with number := 58 }], closingOrder := [58, 57] }

theorem test_witness_CollisionsDrawOrAbandon :
    ((txFrame .overload 6 true).sending = true ∧
      (sendingState (some (txFrame .overload 6 true)) []).link.immediate = some (txFrame .overload 6 true) ∧
      (txFrame .overload 6 true).collisions < 7 ∧ (txFrame .overload 6 true).kind = .overload) ∧
    ((sendingState (some (txFrame .overload 7 true)) [txFrame .reply 0 false]).link.immediate =
        some (txFrame .overload 7 true) ∧ (txFrame .overload 7 true).collisions = 7 ∧
      (txFrame .overload 7 true).vehicle = none ∧
      ∀ x ∈ (sendingState (some (txFrame .overload 7 true)) [txFrame .reply 0 false]).link.queue, x.kind ≠ .overload) ∧
    (∀ n ∈ [6, 7],
      ((sendingState none [txFrame .reply 0 false, txFrame .beacon n true]).link.immediate.map TxFrame.sending).getD false =
        false ∧
      (sendingState none [txFrame .reply 0 false, txFrame .beacon n true]).link.queue =
        [txFrame .reply 0 false] ++ txFrame .beacon n true :: [] ∧ (∀ x ∈ [txFrame .reply 0 false], x.sending = false) ∧
      OneClosingOrder (twoReady (sendingState none [txFrame .reply 0 false, txFrame .beacon n true])) ∧
      (∀ x ∈ [txFrame .reply 0 false] ++ [], x.kind = .beacon → x.sending = true)) ∧
    (∃ x ∈ [txFrame .beacon 0 false] ++ [], x.kind = .beacon ∧ x.sending = false) ∧
    ((sendingState (some (txFrame .overload 7 true)) [txFrame .reply 0 false, txFrame .overload 0 false]).link.queue =
        [txFrame .reply 0 false] ++ txFrame .overload 0 false :: [] ∧
      OneClosingOrder (twoReady (sendingState (some (txFrame .overload 7 true)) [txFrame .overload 0 false]))) ∧
    (vehicleSending.link.queue = [] ++ sendingVehicle :: List.replicate 15 (txFrame .reply 0 false) ∧
      sendingVehicle.collisions = 7 ∧ sendingVehicle.vehicle = some 57 ∧ NumbersDistinct vehicleSending) :=
  ⟨by decide, by decide, by decide, ⟨txFrame .beacon 0 false, by decide⟩, by decide, by decide⟩

theorem test_witness_CompletionsTellTheirBlock :
    ((txFrame .beacon 0 true).sending = true ∧
      (sendingState none [txFrame .reply 0 false, txFrame .beacon 0 true]).link.immediate = none ∧
      (sendingState none [txFrame .reply 0 false, txFrame .beacon 0 true]).link.queue =
        [txFrame .reply 0 false] ++ txFrame .beacon 0 true :: [] ∧ (∀ x ∈ [txFrame .reply 0 false], x.sending = false) ∧
      (txFrame .beacon 0 true).vehicle = none ∧
      OneClosingOrder (twoReady (sendingState none [txFrame .reply 0 false, txFrame .beacon 0 true]))) ∧
    ((sendingState (some (txFrame .overload 0 false)) [txFrame .beacon 0 true]).link.immediate =
        some (txFrame .overload 0 false) ∧ (txFrame .overload 0 false).sending = false) ∧
    (vehicleSending.link.immediate = none ∧ sendingVehicle.vehicle = some 57 ∧
      OneClosingOrder vehicleSending) ∧
    ((sendingState (some (txFrame .overload 0 true)) [txFrame .reply 0 false]).link.immediate =
        some (txFrame .overload 0 true) ∧ (txFrame .overload 0 true).clears = [] ∧
      ∀ x ∈ (sendingState (some (txFrame .overload 0 true)) [txFrame .reply 0 false]).link.queue, x.kind ≠ .overload) ∧
    ((sendingState (some (txFrame .overload 0 true)) [txFrame .reply 0 false, txFrame .overload 0 false]).link.queue =
        [txFrame .reply 0 false] ++ txFrame .overload 0 false :: [] ∧ ∀ x ∈ [txFrame .reply 0 false], x.kind ≠ .overload) ∧
    clearsOnReport .queueLoss = true := by decide

theorem test_witness_AdmissionFollowsTheFreePlaces :
    (queued 15 .vehicle station).link.queue.length < 16 ∧ (queued 16 .vehicle station).link.queue.length = 16 ∧
    ((sendingState none (List.replicate 15 (txFrame .reply 0 false) ++ txFrame .start 0 false :: [])).link.queue.length = 16 ∧
      frameClass (txFrame .start 0 false).kind = 2 ∧ (txFrame .start 0 false).sending = false ∧
      ∀ x ∈ List.replicate 15 (txFrame .reply 0 false), frameClass x.kind = 2 → x.sending = true) ∧
    ((sendingState none (List.replicate 15 (txFrame .reply 0 false) ++ { sendingVehicle with sending := false } :: [])).link.queue.length
        = 16 ∧
      (∀ x ∈ List.replicate 15 (txFrame .reply 0 false) ++ [{ sendingVehicle with sending := false }],
        frameClass x.kind = 2 → x.sending = true) ∧
      frameClass .overload = 0 ∧ ({ sendingVehicle with sending := false } : TxFrame).vehicle = some 57) ∧
    ((queued 16 .reply station).link.queue.length = 16 ∧ frameClass .halfAxle ≠ 0 ∧
      (∀ x ∈ (queued 16 .reply station).link.queue, frameClass x.kind = 2 → x.sending = true) ∧
      ∀ x ∈ (queued 16 .reply station).link.queue, x.kind = .vehicle → x.sending = true) ∧
    ((sendingState none [txFrame .reply 0 false, txFrame .beacon 3 false]).link.queue =
        [txFrame .reply 0 false] ++ txFrame .beacon 3 false :: [] ∧
      ∀ x ∈ [txFrame .reply 0 false], x.kind = .beacon → x.sending = true) ∧
    (∀ n ∈ [14, 15],
      ((queued n .reply station).withVeh { Assembler.reset with entries := [vehicle57], closingOrder := [57] }).veh.closingOrder =
        vehicle57.number :: [] ∧ vehicle57.state = .ready ∧ (queued n .reply station).link.queue.length = n) ∧
    OneClosingOrder (twoReady (queued 13 .reply station)) ∧ (∀ v ∈ station.veh.entries, v.state ≠ .ready) := by decide

/-- Two READY vehicles are offered in the closing order until the first refusal (R99). -/
theorem test_ready_vehicles_in_closing_order :
    ((offerReady (twoReady station)).link.queue.map TxFrame.vehicle = [some 58, some 57]) ∧
    ((offerReady (twoReady (queued 14 .reply station))).veh.entries.map Vehicle.state = [.ready, .queued]) := by decide

theorem test_witness_LinkCommandsActAndAnswer :
    (∀ kind ∈ [0x30#8, 0x31#8, 0x32#8, 0x3A#8], ∀ dest ∈ [4#8, 255#8],
      AtFront kind (rx kind [] dest) [] (given kind [] dest (queued 14 .reply station)) ∧
      RoomForReply (given kind [] dest (queued 14 .reply station)) ∧
      (given kind [] dest (queued 14 .reply station)).link.queue.length ≤ 14) ∧
    (AtFront 0x30 (rx 0x30 [] 4) [] (given 0x30 [] 4 (queued 16 .reply station)) ∧ (rx 0x30 [] 4).dest ≠ 255 ∧
      (given 0x30 [] 4 (queued 16 .reply station)).link.queue.length = 16) ∧
    ((holdNow station).link.hold = some 17000 ∧ reached ((holdNow station).withTick 17000).tick 17000 = true) ∧
    (AtFront 0x39 (rx 0x39 [1] 4) [] (given 0x39 [1] 4 station) ∧ (1 : Byte).toNat ≤ 1) := by decide

theorem test_witness_MalformedCommandsAreRefusedField :
    (∀ kind ∈ [0x30#8, 0x31#8, 0x32#8, 0x36#8, 0x37#8, 0x3A#8],
      AtFront kind (rx kind [0] 4) [] (given kind [0] 4 station) ∧ RoomForReply (given kind [0] 4 station) ∧
      (rx kind [0] 4).payload ≠ []) ∧
    (AtFront 0x39 (rx 0x39 [2] 4) [] (given 0x39 [2] 4 station) ∧ 1 < (2 : Byte).toNat) ∧
    (AtFront 0x38 (rx 0x38 [16] 4) [] (given 0x38 [16] 4 station) ∧ 15 < (16 : Byte).toNat) ∧
    (AtFront 0x33 (rx 0x33 [1, 2] 4) [] (given 0x33 [1, 2] 4 station) ∧ (rx 0x33 [1, 2] 4).payload.length ≠ 3) ∧
    (AtFront 0x34 (rx 0x34 [1] 4) [] (given 0x34 [1] 4 station) ∧ (rx 0x34 [1] 4).payload.length < 2) ∧
    (AtFront 0x35 (rx 0x35 [] 4) [] (given 0x35 [] 4 station) ∧ (rx 0x35 [] 4).payload.length ≠ 2) ∧
    (∀ p ∈ [(0x33#8, [1#8, 0, 1]), (0x34, [1, 0]), (0x35, [1, 0]), (0x36, []), (0x37, [])],
      AtFront p.1 (rx p.1 p.2 255) [] (given p.1 p.2 255 station) ∧ (rx p.1 p.2 255).dest = 255) := by decide

theorem test_witness_TableReadsAreServedOrRefused :
    (∀ p ∈ [[14#8, 0, 1], [0, 0, 0], [0, 0, 13], [1, 0, 1], [5, 0, 12], [1, 4, 1], [13, 18, 1], [1, 3, 12], [13, 17, 1]],
      ∀ a ∈ [Activity.idle, .erasing 6 999, .writing 1 (.cut 0) 6 999],
      AtFront 0x33 (rx 0x33 p 4) [] (given 0x33 p 4 (calibrated a)) ∧ (rx 0x33 p 4).dest ≠ 255 ∧
      RoomForReply (given 0x33 p 4 (calibrated a))) ∧
    (readBusy (calibrated (.writing 1 (.cut 0) 6 999)) 2 = false ∧ readBusy (calibrated .idle) 1 = false) ∧
    (tablePresent (calibrated .idle).cal 5 = false ∧ tablePresent (calibrated .idle).cal 1 = true ∧
      (storedTable (calibrated .idle).cal 1).entries.length ≤ (4 : Byte).toNat) ∧
    (((storedTable (calibrated .idle).cal 1).entries.drop 3).take 12 ≠ [] ∧
      (calibrated .idle).link.queue.length + (((storedTable (calibrated .idle).cal 1).entries.drop 3).take 12).length ≤ 16) ∧
    ((calibrated .idle).counters.values[17]? = some 0 ∧ 17 + 1 ≤ 18) ∧
    (AtFront 0x33 (rx 0x33 [1, 0, 12] 4) [] (given 0x33 [1, 0, 12] 4 (queued 14 .reply (calibrated .idle))) ∧
      readBusy (queued 14 .reply (calibrated .idle)) 1 = false ∧
      tablePresent (queued 14 .reply (calibrated .idle)).cal 1 = true ∧
      ((storedTable (queued 14 .reply (calibrated .idle)).cal 1).entries.drop 0).take 12 ≠ []) ∧
    ((calibrated .idle).counters.values.map fun n => [BitVec.ofNat 8 (n / 256), BitVec.ofNat 8 n]).drop 17 ≠ [] := by decide

/-- A read of four entries with two free places: two frames are admitted, two are dropped and counted (R164). -/
theorem test_table_read_part_of_the_way :
    ∃ t, exec .tableRead (given 0x33 [1, 0, 12] 4 (queued 14 .reply (calibrated .idle))) = .next t ∧
      t.link.queue.length = 16 ∧ t.counters.txDrop = 2 ∧ t.raised.queueLoss = true := ⟨_, rfl, by decide⟩

/-- The sequence of chapter 9: an entry that passes, one out of order, one with a bad field, one past the end. -/
theorem test_witness_TableChangesAreTestedInOrder :
    (∀ p ∈ [(0x34#8, [2#8, 1, 5, 20, 3, 232]), (0x34, [14, 0]), (0x34, [13, 0]), (0x35, [2, 1])],
      (given p.1 p.2 4 (calibrated .idle)).link.rxQueue = rx p.1 p.2 4 :: [] ∧ working (given p.1 p.2 4 (calibrated .idle)) = true ∧
      (given p.1 p.2 4 (calibrated .idle)).link.due = true ∧ (rx p.1 p.2 4).dest ≠ 255 ∧
      RoomForReply (given p.1 p.2 4 (calibrated .idle))) ∧
    ((calibrated .idle).cal.lock = false ∧ (calibrated .idle).straps.calEnable = true ∧
      (calibrated .idle).cal.activity = .idle ∧ (calibrated .idle).ctl.restartPending = false ∧
      decide (1 ≤ (tableEntries (calibrated .idle).cal 2).length ∧ 1 < tableCap 2) = true ∧
      entryOk 2 [5, 20, 3, 232] = true ∧ orderOk 2 (tableEntries (calibrated .idle).cal 2) 1 [5, 20, 3, 232] = true) ∧
    (decide (2 ≤ (tableEntries (calibrated .idle).cal 2).length ∧ 2 < tableCap 2) = false ∧
      entryOk 2 [0, 49, 3, 232] = false ∧ entryOk 2 [2, 88, 3, 232] = true ∧
      orderOk 2 (tableEntries (calibrated .idle).cal 2) 1 [2, 88, 3, 232] = false) ∧
    ((locked .idle).cal.lock = true ∧ (calibrated (.erasing 6 999)).cal.activity ≠ .idle ∧
      (station.withStraps { station.straps with calEnable := false }).straps.calEnable = false) ∧
    1 ≤ (tableEntries (calibrated .idle).cal 2).length ∧ 1 ≤ (tableEntries (calibrated .idle).cal 3).length := by decide

theorem test_witness_CompletionsStoreTheTable :
    (∀ index ∈ [0, 1],
      (calibrated (.writing 2 (.entry index [5, 20, 3, 232]) 6 999)).cal.activity =
        .writing 2 (.entry index [5, 20, 3, 232]) 6 999 ∧
      isLater (calibrated (.writing 2 (.entry index [5, 20, 3, 232]) 6 999)).tick 999 = true ∧
      (calibrated (.writing 2 (.entry index [5, 20, 3, 232]) 6 999)).cal.tables.length = 13 ∧
      RoomForReply (calibrated (.writing 2 (.entry index [5, 20, 3, 232]) 6 999)) ∧
      index ≤ (tableEntries (calibrated (.writing 2 (.entry index [5, 20, 3, 232]) 6 999)).cal 2).length) ∧
    ((calibrated (.writing 12 (.cut 0) 6 999)).cal.activity = .writing 12 (.cut 0) 6 999 ∧ 12 < 13) := by decide

theorem test_witness_LockAndEraseAct :
    (∀ kind ∈ [0x36#8, 0x37#8],
      AtFront kind (rx kind [] 4) [] (given kind [] 4 (calibrated .idle)) ∧ (rx kind [] 4).payload = [] ∧
      (rx kind [] 4).dest ≠ 255 ∧ RoomForReply (given kind [] 4 (calibrated .idle))) ∧
    ((calibrated .idle).straps.calEnable = true ∧ (calibrated .idle).cal.activity = .idle ∧
      (calibrated .idle).ctl.restartPending = false ∧ (calibrated .idle).cal.lock = false ∧
      ∀ k, k ≤ 4 → tablePresent (calibrated .idle).cal k = true) ∧
    ((locked .idle).cal.lock = true ∧ tablePresent station.cal 4 = false ∧ station.cal.lock = false) ∧
    ((calibrated (.erasing 6 999)).cal.activity = .erasing 6 999 ∧ isLater (calibrated (.erasing 6 999)).tick 999 = true ∧
      RoomForReply (calibrated (.erasing 6 999))) := by decide

theorem test_witness_FramesReadBackAsFormed :
    (∃ c, vehicle57.outcome = some c ∧ vehicle57.axles.length ≤ 12 ∧ vehicle57.lead ≤ 255 ∧ c.cls ≤ 15 ∧
      (∀ k ∈ c.entry, k ≤ 11) ∧ c.speed ≤ 2500 ∧ (∀ t ∈ c.firstTemp, tempInRange t = true) ∧
      (∀ d ∈ allWheels vehicle57.axles, ∀ n ∈ d.load, n ≤ 65535) ∧
      ∀ a ∈ vehicle57.axles, a.kind ≠ .pending ∧ (a.kind = .part → a.left = none ∨ a.right = none)) ∧
    ((classify truckTables truckInput (truck 5900 5810 .probe)).cls ≤ 15 ∧
      (∀ k ∈ (classify truckTables truckInput (truck 5900 5810 .probe)).entry, k ≤ 11) ∧
      (classify truckTables truckInput (truck 5900 5810 .probe)).speed ≤ 2500 ∧
      (classify truckTables truckInput (truck 5900 5810 .probe)).gross < 16777216 ∧
      (classify truckTables truckInput (truck 5900 5810 .probe)).exceeding = [(4, 11710)]) ∧
    (CountersFit station ∧ tempInRange station.temp.least = true ∧ tempInRange station.temp.greatest = true ∧
      (∀ f ∈ filtered station.temp.probes.p0, tempInRange f = true) ∧ station.temp.goodReadings ≤ 65535) ∧
    ((station.withVeh { Assembler.reset with runCount := 10 }).veh.entries.length ≤ 8 ∧
      (station.withVeh { Assembler.reset with runCount := 10 }).veh.runCount ≤ station.setup.clearCount ∧
      station.setup.clearCount ≤ 255) ∧
    (station.setup.group ≤ 3 ∧ tempInRange station.temp.value = true) ∧
    (1389 ≤ (wheel .left 0 1389).hit.speed ∧ (wheel .left 0 69444).hit.speed ≤ 69444 ∧ tempInRange (-400) = true ∧
      tempInRange 800 = true ∧
      (wheel .left 0 1389).data = ⟨some 3884, false, false, false, (wheel .left 0 1389).data.uncalibrated, some 275,
        some .probe⟩ ∧
      bypassOutcome = ⟨none, false, false, true, bypassOutcome.uncalibrated, none, none⟩) :=
  ⟨⟨_, rfl, by decide⟩, by decide +kernel, by decide, by decide, by decide, by decide⟩

end Sys2Proof.Tests
end

namespace Sys2Proof.Machine

open Sys2Proof

/-! The quotient rounded half up, as a pair of comparisons and as a bound, and the quotient rounded half away from zero of a
product whose second factor is not negative. -/

theorem roundHalfUp_lt_iff {n d k : Nat} (hd : 0 < d) : roundHalfUp n d < k ↔ 2 * n + d < k * (2 * d) :=
  Nat.div_lt_iff_lt_mul (by omega)

theorem le_roundHalfUp_iff {n d k : Nat} (hd : 0 < d) : k ≤ roundHalfUp n d ↔ k * (2 * d) ≤ 2 * n + d :=
  Nat.le_div_iff_mul_le (by omega)

theorem roundHalfUp_zero (d : Nat) : roundHalfUp 0 d = 0 := by
  rcases Nat.eq_zero_or_pos d with rfl | hd
  · rfl
  · exact Nat.lt_one_iff.1 ((roundHalfUp_lt_iff hd).2 (by omega))

/-- A share k / d of m, with k no more than d, rounds to no more than m. -/
theorem roundHalfUp_mul_le {m k d : Nat} (hd : 0 < d) (hk : k ≤ d) : roundHalfUp (m * k) d ≤ m := by
  have hmk : m * k ≤ m * d := Nat.mul_le_mul_left m hk
  refine Nat.lt_succ_iff.1 ((roundHalfUp_lt_iff hd).2 ?_)
  calc 2 * (m * k) + d < 2 * (m * d) + 2 * d := by omega
    _ = m.succ * (2 * d) := by rw [Nat.mul_left_comm, Nat.succ_mul m]

/-- The sign of a product with a factor that is not negative is that of the other factor. -/
theorem roundAway_mul_natCast (x : Int) (k d : Nat) :
    roundAway (x * k) d = x.sign * (roundHalfUp (x.natAbs * k) d : Int) := by
  rw [roundAway, Int.natAbs_mul, Int.natAbs_natCast]
  rcases Nat.eq_zero_or_pos k with rfl | hk
  · simp [roundHalfUp_zero]
  · have hkz : (0 : Int) < k := by exact_mod_cast hk
    rcases lt_trichotomy x 0 with hx | rfl | hx
    · rw [if_pos (Int.mul_neg_of_neg_of_pos hx hkz), Int.sign_eq_neg_one_of_neg hx, neg_one_mul]
    · simp [roundHalfUp_zero]
    · rw [if_neg (Int.mul_pos hx hkz).not_gt, Int.sign_eq_one_of_pos hx, one_mul]

/-! The temperature factor of R34: between two neighbouring points, along a table, and in the third step of an estimate. -/

/-! ### Between two neighbouring points -/

/-- The share of the difference of factors that R34 adds to the factor of the point below. -/
def factorShare (a b : Int × Nat) (t : Int) : Nat :=
  roundHalfUp (((b.2 : Int) - a.2).natAbs * (t - a.1).toNat) (b.1 - a.1).toNat

theorem factorShare_le {a b : Int × Nat} {t : Int} (hat : a.1 ≤ t) (htb : t < b.1) :
    factorShare a b t ≤ ((b.2 : Int) - a.2).natAbs :=
  roundHalfUp_mul_le (by omega) (by omega)

theorem interpolate_eq {a b : Int × Nat} {t : Int} (hat : a.1 ≤ t) :
    interpolate a b t = (a.2 : Int) + ((b.2 : Int) - a.2).sign * (factorShare a b t : Int) := by
  have hcast : t - a.1 = ((t - a.1).toNat : Int) := (Int.toNat_of_nonneg (by omega)).symm
  rw [interpolate, hcast, roundAway_mul_natCast, factorShare]

theorem interpolate_at_point (a b : Int × Nat) : interpolate a b a.1 = (a.2 : Int) := by
  simp [interpolate_eq (le_refl a.1), factorShare, roundHalfUp_zero]

theorem interpolate_between {a b : Int × Nat} {t : Int} (hat : a.1 ≤ t) (htb : t < b.1) :
    (min a.2 b.2 : Nat) ≤ interpolate a b t ∧ interpolate a b t ≤ (max a.2 b.2 : Nat) := by
  have hshare := factorShare_le hat htb
  rw [interpolate_eq hat]
  rcases lt_trichotomy ((b.2 : Int) - a.2) 0 with hneg | hzero | hpos
  · rw [Int.sign_eq_neg_one_of_neg hneg]; omega
  · rw [hzero, Int.sign_zero]; omega
  · rw [Int.sign_eq_one_of_pos hpos]; omega

/-! ### Along a table -/

theorem tempFactorFrom_skip {before : List (Int × Nat)} {c a : Int × Nat} {behind : List (Int × Nat)} {t : Int}
    (hbefore : ∀ x ∈ before, x.1 ≤ t) (hat : a.1 ≤ t) :
    tempFactorFrom c (before ++ a :: behind) t = tempFactorFrom a behind t := by
  induction before generalizing c with
  | nil => simp [tempFactorFrom, hat]
  | cons d before ih =>
    obtain ⟨hd, hrest⟩ := List.forall_mem_cons.1 hbefore
    simpa [tempFactorFrom, hd] using ih hrest

theorem tempFactorFrom_next {a b : Int × Nat} {behind : List (Int × Nat)} {t : Int} (htb : t < b.1) :
    tempFactorFrom a (b :: behind) t = interpolate a b t := by
  rw [tempFactorFrom, if_neg (by omega)]

theorem tempFactorFrom_at_point {a : Int × Nat} {behind : List (Int × Nat)} (hrise : ∀ b ∈ behind, a.1 < b.1) :
    tempFactorFrom a behind a.1 = (a.2 : Int) := by
  cases behind with
  | nil => rfl
  | cons b behind => rw [tempFactorFrom_next (hrise b (by simp)), interpolate_at_point]

/-- The factor from a point that is not above the temperature looks only at that point and those behind it. -/
theorem tempFactor_from {before : List (Int × Nat)} {a : Int × Nat} {behind : List (Int × Nat)} {t : Int}
    (hrise : (before ++ a :: behind).Pairwise (fun a b => a.1 < b.1)) (hat : a.1 ≤ t) :
    tempFactor (before ++ a :: behind) t = tempFactorFrom a behind t := by
  cases before with
  | nil =>
    rw [List.nil_append, tempFactor]
    split
    · rename_i hta
      obtain rfl : t = a.1 := le_antisymm hta hat
      exact (tempFactorFrom_at_point (List.pairwise_cons.1 hrise).1).symm
    · rfl
  | cons c before =>
    obtain ⟨hc, hrest⟩ := List.pairwise_cons.1 hrise
    have hca : c.1 < a.1 := hc a (by simp)
    have hbefore : ∀ x ∈ before, x.1 ≤ t := fun x hx =>
      ((List.pairwise_append.1 hrest).2.2 x hx a (by simp)).le.trans hat
    rw [List.cons_append, tempFactor, if_neg (by omega), tempFactorFrom_skip hbefore hat]

theorem tempFactor_first {a : Int × Nat} {l : List (Int × Nat)} {t : Int} (hta : t ≤ a.1) :
    tempFactor (a :: l) t = (a.2 : Int) := by
  rw [tempFactor, if_pos hta]

theorem tempFactor_last {before : List (Int × Nat)} {a : Int × Nat} {t : Int}
    (hrise : (before ++ [a]).Pairwise (fun a b => a.1 < b.1)) (hat : a.1 ≤ t) :
    tempFactor (before ++ [a]) t = (a.2 : Int) := by
  rw [tempFactor_from hrise hat, tempFactorFrom]

theorem tempFactor_at_point {l : List (Int × Nat)} {p : Int × Nat} (hrise : l.Pairwise (fun a b => a.1 < b.1))
    (hp : p ∈ l) : tempFactor l p.1 = (p.2 : Int) := by
  obtain ⟨before, behind, rfl⟩ := List.append_of_mem hp
  have hbehind := (List.pairwise_cons.1 (List.pairwise_append.1 hrise).2.1).1
  rw [tempFactor_from hrise le_rfl, tempFactorFrom_at_point hbehind]

theorem tempFactor_between_neighbours {before : List (Int × Nat)} {a b : Int × Nat} {behind : List (Int × Nat)} {t : Int}
    (hrise : (before ++ a :: b :: behind).Pairwise (fun a b => a.1 < b.1)) (hat : a.1 ≤ t) (htb : t < b.1) :
    tempFactor (before ++ a :: b :: behind) t =
      (a.2 : Int) + ((b.2 : Int) - a.2).sign * (factorShare a b t : Int) := by
  rw [tempFactor_from hrise hat, tempFactorFrom_next htb, interpolate_eq hat]

/-! ### The bounds of R34 -/

/-- A value lies between the factors of two points of a table. -/
def BoundedByFactors (l : List (Int × Nat)) (v : Int) : Prop :=
  (∃ a ∈ l, (a.2 : Int) ≤ v) ∧ ∃ b ∈ l, v ≤ (b.2 : Int)

theorem boundedByFactors_of_mem {l : List (Int × Nat)} {p : Int × Nat} (hp : p ∈ l) : BoundedByFactors l (p.2 : Int) :=
  ⟨⟨p, hp, le_rfl⟩, p, hp, le_rfl⟩

theorem BoundedByFactors.cons {l : List (Int × Nat)} {v : Int} (h : BoundedByFactors l v) (p : Int × Nat) :
    BoundedByFactors (p :: l) v := by
  obtain ⟨⟨a, ha, hav⟩, b, hb, hvb⟩ := h
  exact ⟨⟨a, List.mem_cons_of_mem p ha, hav⟩, b, List.mem_cons_of_mem p hb, hvb⟩

theorem interpolate_bounded {a b : Int × Nat} {l : List (Int × Nat)} {t : Int} (hat : a.1 ≤ t) (htb : t < b.1) :
    BoundedByFactors (a :: b :: l) (interpolate a b t) := by
  obtain ⟨hlow, hhigh⟩ := interpolate_between hat htb
  rcases le_total a.2 b.2 with hab | hba
  · exact ⟨⟨a, by simp, by simpa [hab] using hlow⟩, b, by simp, by simpa [hab] using hhigh⟩
  · exact ⟨⟨b, by simp, by simpa [hba] using hlow⟩, a, by simp, by simpa [hba] using hhigh⟩

theorem tempFactorFrom_bounded {a : Int × Nat} {l : List (Int × Nat)} {t : Int} (hat : a.1 ≤ t) :
    BoundedByFactors (a :: l) (tempFactorFrom a l t) := by
  induction l generalizing a with
  | nil => exact boundedByFactors_of_mem (by simp)
  | cons b l ih =>
    rw [tempFactorFrom]
    split
    · next hbt => exact (ih hbt).cons a
    · next hbt => exact interpolate_bounded hat (by omega)

theorem tempFactor_bounded {l : List (Int × Nat)} (hne : l ≠ []) (t : Int) : BoundedByFactors l (tempFactor l t) := by
  cases l with
  | nil => exact absurd rfl hne
  | cons a l =>
    rw [tempFactor]
    split
    · exact boundedByFactors_of_mem (by simp)
    · next hta => exact tempFactorFrom_bounded (by omega)

/-! ### The third step of an estimate -/

/-- An estimate whose first two steps do not saturate is the third step, saturated at 65,535 (R34, R35). -/
theorem estimate_third_step {w : Weighing} {r : PulseRec} {k w1 w2 factor : Nat} (hk : w.gain[chanIndex r.chan]? = some k)
    (h1 : w1 = roundHalfUp (r.area * w.hit.speed * k) 4294967296) (hw1 : w1 ≤ 65535)
    (h2 : w2 = roundHalfUp (w1 * bandFactor w.band (recordSpeed w.hit.speed)) 1024) (hw2 : w2 ≤ 65535)
    (hf : tempFactor w.temps w.temp = (factor : Int)) :
    estimate w r =
      if 65535 < roundHalfUp (w2 * factor) 1024 then ⟨65535, true⟩
      else ⟨roundHalfUp (w2 * factor) 1024, r.clipped⟩ := by
  have hgain : w.gain.getD (chanIndex r.chan) 0 = k := by simp [List.getD_eq_getElem?_getD, hk]
  simp only [estimate, hgain, hf, Int.toNat_natCast, ← h1, ← h2, loadMax, if_neg hw1.not_gt, if_neg hw2.not_gt]

/-- Settles O27: the four cases of R34 and its bounds, and the third step of an estimate. -/
theorem temperatureFactorStaysInTheTable : Obligations.TemperatureFactorStaysInTheTable := by
  unfold Obligations.TemperatureFactorStaysInTheTable
  refine ⟨fun l hne hrise =>
    ⟨tempFactor_bounded hne, fun p hp => tempFactor_at_point hrise hp, ?single, ?first, ?last, ?between⟩, ?thirdStep⟩
  case single =>
    rintro p t rfl
    simp [tempFactor, tempFactorFrom]
  case first =>
    intro p hp t htp
    obtain ⟨rest, rfl⟩ := List.head?_eq_some_iff.1 hp
    exact tempFactor_first htp
  case last =>
    intro p hp t hpt
    obtain ⟨before, rfl⟩ := List.getLast?_eq_some_iff.1 hp
    exact tempFactor_last hrise hpt
  case between =>
    rintro before behind a b t q rfl hat htb rfl
    exact ⟨factorShare_le hat htb, tempFactor_between_neighbours hrise hat htb⟩
  case thirdStep =>
    rintro w r k w1 w2 w3 factor hk h1 hw1 h2 hw2 hf rfl
    have hest := estimate_third_step hk h1 hw1 h2 hw2 hf
    refine ⟨fun hover => hest.trans (if_pos hover), fun hfits => ?_⟩
    rw [hest.trans (if_neg hfits.not_gt)]
    rfl

/-! The settings in use: no command but START_DONE changes them (R155). -/

/-- An outcome whose next state, if it has one, holds the settings of `s`. -/
def KeepsSetup (s : State) (o : Host.Outcome State Fault Refusal) : Prop := ∀ t, o = .next t → t.setup = s.setup

@[simp] theorem keepsSetup_next (s t : State) : KeepsSetup s (.next t) ↔ t.setup = s.setup :=
  ⟨fun h => h t rfl, fun h _ ht => by cases ht; exact h⟩

/-! ### Commands taken from the receive queue -/

theorem deliver_setup {kind : Byte} {s t : State} {f : RxFrame} (h : deliver kind s = some (f, t)) :
    t.setup = s.setup := by
  obtain ⟨rest, -, rfl⟩ := deliver_some h
  rfl

/-- A delivered command keeps the settings when its effect does. -/
theorem onCommand_keepsSetup {kind : Byte} {effect : RxFrame → State → State} {s : State}
    (heffect : ∀ f t, (effect f t).setup = t.setup) : KeepsSetup s (onCommand kind effect s) := by
  unfold onCommand
  split
  · next f t hd => simp [heffect, deliver_setup hd]
  · simp

theorem plainCommand_setup {effect : State → State} (heffect : ∀ t, (effect t).setup = t.setup) (f : RxFrame)
    (s : State) : (plainCommand effect f s).setup = s.setup := by
  unfold plainCommand refuseField
  split <;> simp [heffect]

theorem memoryCommand_setup {effect : RxFrame → State → State} (heffect : ∀ f t, (effect f t).setup = t.setup)
    (f : RxFrame) (s : State) : (memoryCommand effect f s).setup = s.setup := by
  unfold memoryCommand refuseField
  (repeat' split) <;> simp [heffect]

/-- What the three commands for MERGE frames share: a frame with a reference acts, and its event ends (R72, R79, R80). -/
def onMerge (kind : Byte) (effect : Byte → Byte → State → State) (s : State) : Host.Outcome State Fault Refusal :=
  match deliver kind s with
  | some (f, t) =>
    match mergeRef f with
    | some r => .next (endEvent s (effect r f.source t))
    | none => .next t
  | none => .next s

theorem exec_mergeTakeReceived (s : State) : exec .mergeTakeReceived s = onMerge 0x02 takeTake s := rfl

theorem exec_mergeCedeReceived (s : State) : exec .mergeCedeReceived s = onMerge 0x03 takeCede s := rfl

theorem exec_mergeRefuseReceived (s : State) : exec .mergeRefuseReceived s = onMerge 0x04 takeRefuse s := rfl

theorem onMerge_keepsSetup {kind : Byte} {effect : Byte → Byte → State → State}
    (heffect : ∀ r partner t, (effect r partner t).setup = t.setup) (s : State) :
    KeepsSetup s (onMerge kind effect s) := by
  unfold onMerge
  split
  · next hd => split <;> simp [heffect, deliver_setup hd]
  · simp

/-! ### Resets -/

@[simp] theorem resetBlocks_setup (kind : ResetKind) (s : State) : (resetBlocks kind s).setup = s.setup := rfl

@[simp] theorem enterStart_setup (kind : ResetKind) (s : State) : (enterStart kind s).setup = s.setup := rfl

theorem leaveReset_setup (s : State) : (leaveReset s).setup = s.setup := by
  unfold leaveReset
  (repeat' split) <;> simp

theorem endCause_setup (cause : HeldCause) (s : State) : (endCause cause s).setup = s.setup := by
  cases cause <;> rfl

/-! ### Every command -/

/-- R155: only the end of START loads the settings. -/
theorem exec_keepsSetup {c : Instr} (hc : ∀ x, c ≠ .startDone x) (s : State) : KeepsSetup s (exec c s) := by
  cases c with
  | startDone x => exact absurd rfl (hc x)
  | powerOn => exact (keepsSetup_next _ _).2 rfl
  | supplyLow => exact (keepsSetup_next _ _).2 rfl
  | resetLine => exact (keepsSetup_next _ _).2 rfl
  | linkRestart => simp only [exec, execLinkRestart]; split <;> simp
  | resetCauseEnd cause => exact (keepsSetup_next _ _).2 ((leaveReset_setup _).trans (endCause_setup cause s))
  | strobe => simp only [exec, execStrobe]; split <;> simp
  | sampleSet v0 v1 v2 v3 tags check => simp only [exec, execSampleSet]; (repeat' split) <;> simp
  | selftestWaitExpiry => simp only [exec, execSelftestWaitExpiry]; split <;> simp
  | weighingComplete => simp only [exec, execWeighingComplete]; (repeat' split) <;> simp
  | loneDeclaration p => simp only [exec, execLoneDeclaration]; split <;> simp
  | cederWaitExpiry slot => simp only [exec, execCederWaitExpiry]; (repeat' split) <;> simp
  | ownerWaitExpiry slot => simp only [exec, execOwnerWaitExpiry]; split <;> simp
  | confirmationWaitExpiry slot => simp only [exec, execConfirmationWaitExpiry]; split <;> simp
  | peerHalfExpiry sender ref => simp only [exec, execPeerHalfExpiry]; split <;> simp
  | gapTimerExpiry => simp only [exec, execGapTimerExpiry]; split <;> simp
  | presenceLineChange level => simp only [exec, execPresenceLineChange]; split <;> simp
  | debounceExpiry => simp only [exec, execDebounceExpiry, confirmVacancy]; (repeat' split) <;> simp
  | stuckExpiry => simp only [exec, execStuckExpiry]; (repeat' split) <;> simp
  | probeReading head value check => simp only [exec, execProbeReading]; split <;> simp
  | stalenessExpiry probe => simp only [exec, execStalenessExpiry]; split <;> simp
  | freshnessExpiry => simp only [exec, execFreshnessExpiry]; split <;> simp
  | heldTimerExpiry => simp only [exec, execHeldTimerExpiry]; split <;> simp
  | beaconTimerExpiry => simp only [exec, execBeaconTimerExpiry]; (repeat' split) <;> simp
  | frameComplete kind source dest payload crc => simp only [exec, execFrameComplete]; (repeat' split) <;> simp
  | frameBroken cause => simp only [exec, execFrameBroken]; split <;> simp
  | startBitSeen => simp only [exec, execStartBitSeen]; (repeat' split) <;> simp
  | slotBegin => simp only [exec, execSlotBegin]; (repeat' split) <;> simp
  | collision => simp only [exec, execCollision]; (repeat' split) <;> simp
  | transmissionComplete => simp only [exec, execTransmissionComplete]; split <;> simp
  | beaconReceived =>
    simp only [exec, execBeaconReceived]
    split
    · next hd => split <;> simp [deliver_setup hd]
    · simp
  | lossExpiry station => exact (keepsSetup_next _ _).2 rfl
  | halfAxleReceived =>
    exact onCommand_keepsSetup (kind := 0x10) (effect := fun f t => endEvent s (takeHalfAxle f t)) fun _ _ => by simp
  | mergeTakeReceived => rw [exec_mergeTakeReceived]; exact onMerge_keepsSetup (fun _ _ _ => by simp) s
  | mergeCedeReceived => rw [exec_mergeCedeReceived]; exact onMerge_keepsSetup (fun _ _ _ => by simp) s
  | mergeRefuseReceived => rw [exec_mergeRefuseReceived]; exact onMerge_keepsSetup (fun _ _ _ => by simp) s
  | hold => exact onCommand_keepsSetup (plainCommand_setup fun _ => rfl)
  | resume => exact onCommand_keepsSetup (plainCommand_setup fun _ => rfl)
  | holdTimerExpiry => simp only [exec, execHoldTimerExpiry, endHold]; split <;> simp
  | tempRequest => exact onCommand_keepsSetup (plainCommand_setup fun _ => by simp)
  | screen => exact onCommand_keepsSetup fun _ _ => by simp
  | rezero => exact onCommand_keepsSetup fun _ _ => by simp
  | tableRead => exact onCommand_keepsSetup fun _ _ => by simp
  | tableWrite => exact onCommand_keepsSetup fun _ _ => by simp
  | tableCut => exact onCommand_keepsSetup fun _ _ => by simp
  | lock => exact onCommand_keepsSetup (memoryCommand_setup fun _ _ => by simp)
  | erase => exact onCommand_keepsSetup (memoryCommand_setup fun _ _ => by simp)
  | restart => exact onCommand_keepsSetup fun _ _ => by simp
  | writeComplete => simp only [exec, execWriteComplete]; (repeat' split) <;> simp
  | cutComplete => simp only [exec, execCutComplete]; (repeat' split) <;> simp
  | eraseComplete => simp only [exec, execEraseComplete]; (repeat' split) <;> simp

/-! R23: the speed of a pair, the span of differences that pair, and the line spacing that gives them. -/

/-! ### The speed at a difference of centres -/

/-- The speed in mm/s at line spacing `d` and a difference of `x` half-ticks. -/
def pairSpeed (d x : Nat) : Nat := roundHalfUp (d * halfTicksPerSecond) x

/-- The trial of R22 for a difference of centres greater than 0, in terms of the speed. -/
theorem pairTest_eq_of_pos {d : Nat} {ha hb : HalfTick} (hpos : 0 < sdiff hb ha) :
    pairTest d ha hb =
      if pairSpeed d (sdiff hb ha).toNat < 1389 then .tooOld
      else if 69444 < pairSpeed d (sdiff hb ha).toNat then .tooFast
      else .pairs (pairSpeed d (sdiff hb ha).toNat) :=
  if_neg hpos.not_ge

theorem pairTest_of_nonpos {d : Nat} {ha hb : HalfTick} (hle : sdiff hb ha ≤ 0) : pairTest d ha hb = .tooFast :=
  if_pos hle

theorem pairSpeed_lt_speedMin_iff {d x : Nat} (hx : 0 < x) : pairSpeed d x < 1389 ↔ deltaMax d < x := by
  rw [pairSpeed, roundHalfUp_lt_iff hx, deltaMax, halfTicksPerSecond, speedMin, Nat.div_lt_iff_lt_mul (by omega)]
  omega

theorem speedMax_lt_pairSpeed_iff {d x : Nat} (hx : 0 < x) : 69444 < pairSpeed d x ↔ x < deltaMin d := by
  rw [← Nat.succ_le_iff, pairSpeed, le_roundHalfUp_iff hx, deltaMin, halfTicksPerSecond, speedMax, Nat.lt_succ_iff,
    Nat.le_div_iff_mul_le (by omega)]
  omega

/-- The three answers of the trial, by where the difference of centres stands to the span. -/
theorem pairTest_cases (d : Nat) (ha hb : HalfTick) :
    (sdiff hb ha < (deltaMin d : Int) ∧ sdiff hb ha ≤ (deltaMax d : Int) ∧ pairTest d ha hb = .tooFast) ∨
    ((deltaMin d : Int) ≤ sdiff hb ha ∧ (deltaMax d : Int) < sdiff hb ha ∧ pairTest d ha hb = .tooOld) ∨
    ((deltaMin d : Int) ≤ sdiff hb ha ∧ sdiff hb ha ≤ (deltaMax d : Int) ∧
      pairTest d ha hb = .pairs (pairSpeed d (sdiff hb ha).toNat)) := by
  have hmin : 0 < deltaMin d := Nat.succ_pos _
  rcases le_or_gt (sdiff hb ha) 0 with hle | hpos
  · exact .inl ⟨by omega, by omega, pairTest_of_nonpos hle⟩
  · have hslow := pairSpeed_lt_speedMin_iff (d := d) (x := (sdiff hb ha).toNat) (by omega)
    have hfast := speedMax_lt_pairSpeed_iff (d := d) (x := (sdiff hb ha).toNat) (by omega)
    rw [pairTest_eq_of_pos hpos]
    split
    · next hv => exact .inr (.inl ⟨by omega, by omega, rfl⟩)
    · next hv =>
      split
      · next hw => exact .inl ⟨by omega, by omega, rfl⟩
      · next hw => exact .inr (.inr ⟨by omega, by omega, rfl⟩)

theorem recordSpeed_bounds {v : Nat} (hlow : 1389 ≤ v) (hhigh : v ≤ 69444) :
    50 ≤ recordSpeed v ∧ recordSpeed v ≤ 2500 := by
  have hle : recordSpeed v < 2501 := (roundHalfUp_lt_iff (by omega)).2 (by omega)
  exact ⟨(le_roundHalfUp_iff (by omega)).2 (by omega), by omega⟩

/-! ### The line spacing of START -/

theorem loadedSetup_absent {c : CalMemory} (h : tablePresent c 0 = false) : loadedSetup c = .builtIn := by
  simp [loadedSetup, tableEntries, h]

theorem loadedSetup_present {c : CalMemory} {e : List Byte} {rest : List (List Byte)} (h : tableEntries c 0 = e :: rest) :
    loadedSetup c = setupOf e := by
  simp [loadedSetup, h]

/-- START_DONE in START leaves the settings that its checked memory gives. -/
theorem exec_startDone_setup {x : Straps} {s t : State} (hs : s.ctl.station = .start)
    (h : exec (.startDone x) s = .next t) : t.setup = loadedSetup t.cal := by
  have hdone : exec (.startDone x) s = .next (enterSelftest (startWork x s)) := if_pos hs
  obtain rfl := Host.Outcome.next.inj (hdone.symm.trans h)
  rfl

/-! ### R23 -/

/-- Settles O23: the trial by speed and by span, and the line spacing in use. -/
theorem pairingSpanIsExact : Obligations.PairingSpanIsExact := by
  unfold Obligations.PairingSpanIsExact
  refine ⟨fun d ha hb _ _ => ?span, fun d ha hb => ⟨pairTest_of_nonpos, ?speed⟩,
    fun x s t hs ht => ⟨fun habs => ?builtIn, ?stored⟩, ?fixed, ?table⟩
  case span =>
    change _ ∧ _ ∧ ∀ v, _ ↔ _ ∧ _ ∧ v = pairSpeed d (sdiff hb ha).toNat
    rcases pairTest_cases d ha hb with ⟨hlow, hhigh, hp⟩ | ⟨hlow, hhigh, hp⟩ | ⟨hlow, hhigh, hp⟩
    · simp [hp, hlow, hhigh, hlow.not_ge]
    · simp [hp, hlow, hhigh, hhigh.not_ge]
    · simp [hp, hlow, hhigh, eq_comm]
  case speed =>
    intro v hpos hv
    replace hv : v = pairSpeed d (sdiff hb ha).toNat := hv
    rw [pairTest_eq_of_pos hpos, ← hv]
    refine ⟨fun hslow => if_pos hslow, fun hfast => ?_, fun hmin hmax => ⟨?_, rfl, recordSpeed_bounds hmin hmax⟩⟩
    · rw [if_neg (by omega), if_pos hfast]
    · rw [if_neg (by omega), if_neg (by omega)]
  case builtIn => rw [exec_startDone_setup hs ht, loadedSetup_absent habs]; rfl
  case stored =>
    intro e rest hentries
    rw [exec_startDone_setup hs ht, loadedSetup_present hentries]; rfl
  case fixed =>
    intro c s t _ _ hc ht
    rw [exec_keepsSetup hc s t ht]
  case table => decide

end Sys2Proof.Machine

namespace Sys2Proof.Machine

open Sys2Proof

/-! What a command can do, said once: it changes nothing, or it acts in one of the ways listed here (chapters 1 to 11). -/

/-- The ways in which a command acts on station `s`, each with the condition under which it acts and the state it leaves. -/
inductive Acts (s : State) : Instr → State → Prop
  | powerOn : Acts s .powerOn (supplyFalls (withSupplyLow 0 (resetBlocks .powerOn s)))
  | supplyLow :
      Acts s .supplyLow (supplyFalls (withSupplyLow (satInc s.ctl.supplyLowCount) (resetBlocks .supplyLow s)))
  | resetLine : Acts s .resetLine ((resetBlocks .resetLine s).withPins { s.pins with resetAsserted := true })
  | linkRestart (hdue : restartDue s = true) :
      Acts s .linkRestart (enterStart .linkRestart (resetBlocks .linkRestart s))
  | resetCauseEnd (cause : HeldCause) : Acts s (.resetCauseEnd cause) (leaveReset (endCause cause s))
  | startDone (x : Straps) (hs : s.ctl.station = .start) : Acts s (.startDone x) (enterSelftest (startWork x s))
  | strobeInStart (hs : s.ctl.station = .start) : Acts s .strobe (s.withTick (s.tick + 1))
  | strobe (hw : working s = true) : Acts s .strobe (strobeEffect s)
  | goodSet {v0 v1 v2 v3 : BitVec 16} {tags check : Byte} {u : Tick} (hout : s.outstanding = some u)
      (hpass : setPasses v0 v1 v2 v3 tags check = true) :
      Acts s (.sampleSet v0 v1 v2 v3 tags check)
        (firstGoodSet (takeSet u (goodSet s.setup v0 v1 v2 v3 tags) (s.withOutstanding none)))
  | badSet {v0 v1 v2 v3 : BitVec 16} {tags check : Byte} {u : Tick} (hout : s.outstanding = some u)
      (hfail : setPasses v0 v1 v2 v3 tags check = false) :
      Acts s (.sampleSet v0 v1 v2 v3 tags check) (takeSet u missingSet (s.withOutstanding none))
  | selftestWaitExpiry (hs : s.ctl.station = .selftest) (hdue : isDue s s.ctl.waitExpiry = true) :
      Acts s .selftestWaitExpiry (endEvent s (endSelftest true (s.withDet (silenceAll s.det))))
  | weighingComplete {w : Weighing} (hw : s.weigh.inFlight = some w) (hl : isLater s.tick w.begun = true) :
      Acts s .weighingComplete (endEvent s (completeWeighing w s))
  | loneDeclaration {p : Path} {h : HeldWheel} {rest : List HeldWheel}
      (ht : takeFirst (canDeclare s p) (s.former.holding.get p) = some (h, rest)) :
      Acts s (.loneDeclaration p) (endEvent s (takeLone h.wheel (withHolding s p rest)))
  | offeredExpires {slot : Nat} {e : MergeEntry} (he : dueMerge s slot .offered .ceded = some e)
      (ho : e.state = .offered) : Acts s (.cederWaitExpiry slot) (endEvent s (giveUpMerge e s))
  | cededExpires {slot : Nat} {e : MergeEntry} (he : dueMerge s slot .offered .ceded = some e)
      (ho : e.state ≠ .offered) : Acts s (.cederWaitExpiry slot) (endEvent s (freeMerge e.slot s))
  | ownerWaitExpiry {slot : Nat} {e : MergeEntry} (he : dueMerge s slot .waiting .waiting = some e) :
      Acts s (.ownerWaitExpiry slot) (endEvent s (giveUpMerge e s))
  | confirmationWaitExpiry {slot : Nat} {e : MergeEntry} (he : dueMerge s slot .taken .taken = some e) :
      Acts s (.confirmationWaitExpiry slot)
        (endEvent s (endTaken e (fun a => { a with unconfirmed := true, link := none }) (bump .unconfirmed s)))
  | peerHalfExpiry {sender ref : Byte}
      (hdue : s.former.halves.any (fun h => halfIs sender ref h && reached s.tick h.expiry) = true) :
      Acts s (.peerHalfExpiry sender ref) (dropHalf sender ref s)
  | gapTimerExpiry {v : Vehicle} (hv : gapDue s = some v) :
      Acts s .gapTimerExpiry (endEvent s (closeEntry v.number .gap s))
  | presenceLineChange {level : LineLevel} (hl : level ≠ s.pins.line) :
      Acts s (.presenceLineChange level)
        (endEvent s (presenceChange level (s.withPins { s.pins with line := level })))
  | debounceExpiry {e : Tick} (hp : s.veh.presence = some (.vacating e)) (hr : reached s.tick e = true) :
      Acts s .debounceExpiry (endEvent s (confirmVacancy (withPresence s .vacant)))
  | stuckExpiry {e : Tick} (hp : s.veh.presence = some (.occupied e)) (hr : reached s.tick e = true) :
      Acts s .stuckExpiry (endEvent s (withPresence s .stuck))
  | probeReading {head : Byte} {value : BitVec 16} {check : Byte} (hw : working s = true)
      (hpass : readingPasses head value check = true)
      (ha : (s.temp.probes.get (readingProbe head)).state ≠ .absent) :
      Acts s (.probeReading head value check) (takeReading (readingProbe head) (readingOk head) value.toInt s)
  | stalenessExpiry {i : ProbeIx} (hdue : stalenessDue s i = true) :
      Acts s (.stalenessExpiry i) (rechoose (changeProbe i (fun p => { p with state := .stale }) s))
  | freshnessExpiry (hdue : isDue s s.temp.freshExpiry = true) : Acts s .freshnessExpiry (rechoose s)
  | heldTimerExpiry (hdue : isDue s s.temp.heldExpiry = true) :
      Acts s .heldTimerExpiry (rechoose (s.withTemp { s.temp with held := none, heldExpiry := none }))
  | beaconTimerExpiry {e : Tick} (he : s.ctl.beaconExpiry = some e) (hr : reached s.tick e = true) :
      Acts s .beaconTimerExpiry (formBeacon (s.withCtl { s.ctl with beaconExpiry := some (after e beaconPeriod) }))
  | overLength {kind source dest : Byte} {payload : List Byte} {crc : BitVec 16} {u : Tick}
      (hr : readingStamp s = some u) (hlen : payloadMax < payload.length) :
      Acts s (.frameComplete kind source dest payload crc) (breakFrame .overLength s)
  | frameComplete {kind source dest : Byte} {payload : List Byte} {crc : BitVec 16} {u : Tick}
      (hr : readingStamp s = some u) (hlen : ¬payloadMax < payload.length) :
      Acts s (.frameComplete kind source dest payload crc)
        (judgeFrame { kind := kind, source := source, dest := dest, payload := payload, stamp := u } crc
          (withRxPath s .idle))
  | frameBroken {cause : BreakCause} {u : Tick} (hr : readingStamp s = some u) :
      Acts s (.frameBroken cause) (breakFrame cause s)
  | startBitIdle (hw : working s = true) (ht : transmitting s = false) (hp : s.link.rxPath = .idle) :
      Acts s .startBitSeen (s.withLink { s.link with round := none, rxPath := .reading s.tick })
  | startBitQuiet (hw : working s = true) (ht : transmitting s = false) (hp : s.link.rxPath = .waitQuiet) :
      Acts s .startBitSeen (s.withLink { s.link with round := none })
  | slotStarts (hq : lineQuiet s = true) (hdue : slotDue s = true) :
      Acts s .slotBegin (startCandidate (s.withLink (beginSlot s.link)))
  | slotPasses (hq : lineQuiet s = true) (hdue : slotDue s = false) :
      Acts s .slotBegin (s.withLink (beginSlot s.link))
  | abandons {f : TxFrame} (hf : sendingFrame s = some f) (hc : collisionLimit ≤ f.collisions + 1) :
      Acts s .collision (abandonFrame f (bump .collisions s))
  | collides {f : TxFrame} (hf : sendingFrame s = some f) (hc : ¬collisionLimit ≤ f.collisions + 1) :
      Acts s .collision (keepCollided f (bump .collisions s))
  | transmissionComplete {f : TxFrame} (hf : sendingFrame s = some f) :
      Acts s .transmissionComplete (completeFrame f s)
  | malformedBeacon {f : RxFrame} {rest : List RxFrame} (h : AtFront 0x20 f rest s)
      (hm : beaconMalformed f.payload = true) : Acts s .beaconReceived (taken rest s)
  | beaconReceived {f : RxFrame} {rest : List RxFrame} (h : AtFront 0x20 f rest s)
      (hm : beaconMalformed f.payload = false) : Acts s .beaconReceived (rechoose (takeBeacon f (taken rest s)))
  | lossExpiry (station : Byte) :
      Acts s (.lossExpiry station)
        (s.withPeers (changeFirst (lossDue s station) (fun p => { p with state := .lost, stable := 0 }) s.peers))
  | halfAxleReceived {f : RxFrame} {rest : List RxFrame} (h : AtFront 0x10 f rest s) :
      Acts s .halfAxleReceived (endEvent s (takeHalfAxle f (taken rest s)))
  | mergeTakeReceived {f : RxFrame} {rest : List RxFrame} {r : Byte} (h : AtFront 0x02 f rest s)
      (hr : mergeRef f = some r) : Acts s .mergeTakeReceived (endEvent s (takeTake r f.source (taken rest s)))
  | malformedTake {f : RxFrame} {rest : List RxFrame} (h : AtFront 0x02 f rest s) (hr : mergeRef f = none) :
      Acts s .mergeTakeReceived (taken rest s)
  | mergeCedeReceived {f : RxFrame} {rest : List RxFrame} {r : Byte} (h : AtFront 0x03 f rest s)
      (hr : mergeRef f = some r) : Acts s .mergeCedeReceived (endEvent s (takeCede r f.source (taken rest s)))
  | malformedCede {f : RxFrame} {rest : List RxFrame} (h : AtFront 0x03 f rest s) (hr : mergeRef f = none) :
      Acts s .mergeCedeReceived (taken rest s)
  | mergeRefuseReceived {f : RxFrame} {rest : List RxFrame} {r : Byte} (h : AtFront 0x04 f rest s)
      (hr : mergeRef f = some r) : Acts s .mergeRefuseReceived (endEvent s (takeRefuse r f.source (taken rest s)))
  | malformedRefuse {f : RxFrame} {rest : List RxFrame} (h : AtFront 0x04 f rest s) (hr : mergeRef f = none) :
      Acts s .mergeRefuseReceived (taken rest s)
  | hold {f : RxFrame} {rest : List RxFrame} (h : AtFront 0x30 f rest s) :
      Acts s .hold (plainCommand holdNow f (taken rest s))
  | resume {f : RxFrame} {rest : List RxFrame} (h : AtFront 0x31 f rest s) :
      Acts s .resume (plainCommand endHold f (taken rest s))
  | holdTimerExpiry (hdue : isDue s s.link.hold = true) : Acts s .holdTimerExpiry (endHold s)
  | tempRequest {f : RxFrame} {rest : List RxFrame} (h : AtFront 0x32 f rest s) :
      Acts s .tempRequest (plainCommand offerTemperature f (taken rest s))
  | screen {f : RxFrame} {rest : List RxFrame} (h : AtFront 0x39 f rest s) :
      Acts s .screen (takeScreen f (taken rest s))
  | rezero {f : RxFrame} {rest : List RxFrame} (h : AtFront 0x38 f rest s) :
      Acts s .rezero (takeRezero f (taken rest s))
  | tableRead {f : RxFrame} {rest : List RxFrame} (h : AtFront 0x33 f rest s) :
      Acts s .tableRead (takeTableRead f (taken rest s))
  | tableWrite {f : RxFrame} {rest : List RxFrame} (h : AtFront 0x34 f rest s) :
      Acts s .tableWrite (takeTableWrite f (taken rest s))
  | tableCut {f : RxFrame} {rest : List RxFrame} (h : AtFront 0x35 f rest s) :
      Acts s .tableCut (takeTableCut f (taken rest s))
  | lock {f : RxFrame} {rest : List RxFrame} (h : AtFront 0x36 f rest s) :
      Acts s .lock (memoryCommand takeLock f (taken rest s))
  | erase {f : RxFrame} {rest : List RxFrame} (h : AtFront 0x37 f rest s) :
      Acts s .erase (memoryCommand takeErase f (taken rest s))
  | restart {f : RxFrame} {rest : List RxFrame} (h : AtFront 0x3A f rest s) :
      Acts s .restart (takeRestart f (taken rest s))
  | writeComplete {k index : Nat} {bytes : List Byte} {source : Byte} {begun : Tick}
      (ha : s.cal.activity = .writing k (.entry index bytes) source begun) (hl : isLater s.tick begun = true) :
      Acts s .writeComplete (completeChange 0x34 k (.entry index bytes) source s)
  | cutComplete {k count : Nat} {source : Byte} {begun : Tick}
      (ha : s.cal.activity = .writing k (.cut count) source begun) (hl : isLater s.tick begun = true) :
      Acts s .cutComplete (completeChange 0x35 k (.cut count) source s)
  | eraseComplete {source : Byte} {begun : Tick} (ha : s.cal.activity = .erasing source begun)
      (hl : isLater s.tick begun = true) :
      Acts s .eraseComplete (sendReply source 0x37 .done noTable (s.withCal (erased s.cal)))

/-- An outcome is the next state that a command leaves: the state as it was, or one of the ways in which the command acts. -/
def ActsOrKeeps (s : State) (c : Instr) (o : Host.Outcome State Fault Refusal) : Prop :=
  ∃ t, o = .next t ∧ (t = s ∨ Acts s c t)

theorem actsOrKeeps_self (s : State) (c : Instr) : ActsOrKeeps s c (.next s) := ⟨s, rfl, .inl rfl⟩

theorem Acts.actsOrKeeps {s t : State} {c : Instr} (h : Acts s c t) : ActsOrKeeps s c (.next t) := ⟨t, rfl, .inr h⟩

theorem onCommand_acts {s : State} {c : Instr} {kind : Byte} {effect : RxFrame → State → State}
    (hacts : ∀ f rest, AtFront kind f rest s → Acts s c (effect f (taken rest s))) :
    ActsOrKeeps s c (onCommand kind effect s) := by
  unfold onCommand
  split
  · next f t hd =>
    obtain ⟨rest, hfront, rfl⟩ := deliver_some hd
    exact (hacts f rest hfront).actsOrKeeps
  · exact actsOrKeeps_self s c

theorem onMerge_acts {s : State} {c : Instr} {kind : Byte} {effect : Byte → Byte → State → State}
    (hacts : ∀ f rest r, AtFront kind f rest s → mergeRef f = some r →
      Acts s c (endEvent s (effect r f.source (taken rest s))))
    (hbad : ∀ f rest, AtFront kind f rest s → mergeRef f = none → Acts s c (taken rest s)) :
    ActsOrKeeps s c (onMerge kind effect s) := by
  unfold onMerge
  split
  · next f t hd =>
    obtain ⟨rest, hfront, rfl⟩ := deliver_some hd
    split
    · next r hr => exact (hacts f rest r hfront hr).actsOrKeeps
    · next hr => exact (hbad f rest hfront hr).actsOrKeeps
  · exact actsOrKeeps_self s c

theorem ite_acts {s t : State} {c : Instr} {p : Prop} [Decidable p] (h : p → Acts s c t) :
    ActsOrKeeps s c (if p then .next t else .next s) := by
  split
  · next hp => exact (h hp).actsOrKeeps
  · exact actsOrKeeps_self s c

theorem execStrobe_acts (s : State) : ActsOrKeeps s .strobe (execStrobe s) := by
  unfold execStrobe
  split
  · exact actsOrKeeps_self s _
  · next hs => exact (Acts.strobeInStart hs).actsOrKeeps
  all_goals next hs => exact (Acts.strobe (by simp [working, hs])).actsOrKeeps

theorem execSampleSet_acts (v0 v1 v2 v3 : BitVec 16) (tags check : Byte) (s : State) :
    ActsOrKeeps s (.sampleSet v0 v1 v2 v3 tags check) (execSampleSet v0 v1 v2 v3 tags check s) := by
  unfold execSampleSet
  split
  · next u hu =>
    dsimp only
    split
    · next hp => exact (Acts.goodSet hu hp).actsOrKeeps
    · next hp => exact (Acts.badSet hu (Bool.not_eq_true _ ▸ hp)).actsOrKeeps
  · exact actsOrKeeps_self s _

theorem execCederWaitExpiry_acts (slot : Nat) (s : State) :
    ActsOrKeeps s (.cederWaitExpiry slot) (execCederWaitExpiry slot s) := by
  unfold execCederWaitExpiry
  split
  · next e he =>
    split
    · next ho => exact (Acts.offeredExpires he ho).actsOrKeeps
    · next ho => exact (Acts.cededExpires he ho).actsOrKeeps
  · exact actsOrKeeps_self s _

theorem execFrameComplete_acts (kind source dest : Byte) (payload : List Byte) (crc : BitVec 16) (s : State) :
    ActsOrKeeps s (.frameComplete kind source dest payload crc)
      (execFrameComplete kind source dest payload crc s) := by
  unfold execFrameComplete
  split
  · next u hr =>
    split
    · next hl => exact (Acts.overLength hr hl).actsOrKeeps
    · next hl => exact (Acts.frameComplete hr hl).actsOrKeeps
  · exact actsOrKeeps_self s _

theorem execStartBitSeen_acts (s : State) : ActsOrKeeps s .startBitSeen (execStartBitSeen s) := by
  unfold execStartBitSeen
  split
  · next hw =>
    simp only [Bool.and_eq_true, Bool.not_eq_true'] at hw
    split
    · next hp => exact (Acts.startBitIdle hw.1 hw.2 hp).actsOrKeeps
    · next hp => exact (Acts.startBitQuiet hw.1 hw.2 hp).actsOrKeeps
    all_goals exact actsOrKeeps_self s _
  · exact actsOrKeeps_self s _

theorem execSlotBegin_acts (s : State) : ActsOrKeeps s .slotBegin (execSlotBegin s) := by
  unfold execSlotBegin
  split
  · next hq =>
    split
    · next hd => exact (Acts.slotStarts hq hd).actsOrKeeps
    · next hd => exact (Acts.slotPasses hq (Bool.not_eq_true _ ▸ hd)).actsOrKeeps
  · exact actsOrKeeps_self s _

theorem execCollision_acts (s : State) : ActsOrKeeps s .collision (execCollision s) := by
  unfold execCollision
  split
  · next f hf =>
    split
    · next hc => exact (Acts.abandons hf hc).actsOrKeeps
    · next hc => exact (Acts.collides hf hc).actsOrKeeps
  · exact actsOrKeeps_self s _

theorem execBeaconReceived_acts (s : State) : ActsOrKeeps s .beaconReceived (execBeaconReceived s) := by
  unfold execBeaconReceived
  split
  · next f t hd =>
    obtain ⟨rest, hfront, rfl⟩ := deliver_some hd
    split
    · next hm => exact (Acts.malformedBeacon hfront hm).actsOrKeeps
    · next hm => exact (Acts.beaconReceived hfront (Bool.not_eq_true _ ▸ hm)).actsOrKeeps
  · exact actsOrKeeps_self s _

theorem execHalfAxleReceived_acts (s : State) : ActsOrKeeps s .halfAxleReceived (execHalfAxleReceived s) :=
  onCommand_acts (effect := fun f t => endEvent s (takeHalfAxle f t)) fun _ _ h => .halfAxleReceived h

theorem execWeighingComplete_acts (s : State) : ActsOrKeeps s .weighingComplete (execWeighingComplete s) := by
  unfold execWeighingComplete
  split
  · next w hw => exact ite_acts fun hl => .weighingComplete hw hl
  · exact actsOrKeeps_self s _

theorem execLoneDeclaration_acts (p : Path) (s : State) :
    ActsOrKeeps s (.loneDeclaration p) (execLoneDeclaration p s) := by
  unfold execLoneDeclaration
  split
  · next ht => exact (Acts.loneDeclaration ht).actsOrKeeps
  · exact actsOrKeeps_self s _

theorem execOwnerWaitExpiry_acts (slot : Nat) (s : State) :
    ActsOrKeeps s (.ownerWaitExpiry slot) (execOwnerWaitExpiry slot s) := by
  unfold execOwnerWaitExpiry
  split
  · next he => exact (Acts.ownerWaitExpiry he).actsOrKeeps
  · exact actsOrKeeps_self s _

theorem execConfirmationWaitExpiry_acts (slot : Nat) (s : State) :
    ActsOrKeeps s (.confirmationWaitExpiry slot) (execConfirmationWaitExpiry slot s) := by
  unfold execConfirmationWaitExpiry
  split
  · next he => exact (Acts.confirmationWaitExpiry he).actsOrKeeps
  · exact actsOrKeeps_self s _

theorem execGapTimerExpiry_acts (s : State) : ActsOrKeeps s .gapTimerExpiry (execGapTimerExpiry s) := by
  unfold execGapTimerExpiry
  split
  · next hv => exact (Acts.gapTimerExpiry hv).actsOrKeeps
  · exact actsOrKeeps_self s _

theorem execPresenceLineChange_acts (level : LineLevel) (s : State) :
    ActsOrKeeps s (.presenceLineChange level) (execPresenceLineChange level s) := by
  unfold execPresenceLineChange
  split
  · exact actsOrKeeps_self s _
  · next hl => exact (Acts.presenceLineChange hl).actsOrKeeps

theorem execDebounceExpiry_acts (s : State) : ActsOrKeeps s .debounceExpiry (execDebounceExpiry s) := by
  unfold execDebounceExpiry
  split
  · next hp => exact ite_acts fun hr => .debounceExpiry hp hr
  · exact actsOrKeeps_self s _

theorem execStuckExpiry_acts (s : State) : ActsOrKeeps s .stuckExpiry (execStuckExpiry s) := by
  unfold execStuckExpiry
  split
  · next hp => exact ite_acts fun hr => .stuckExpiry hp hr
  · exact actsOrKeeps_self s _

theorem execBeaconTimerExpiry_acts (s : State) : ActsOrKeeps s .beaconTimerExpiry (execBeaconTimerExpiry s) := by
  unfold execBeaconTimerExpiry
  split
  · next he => exact ite_acts fun hr => .beaconTimerExpiry he hr
  · exact actsOrKeeps_self s _

theorem execFrameBroken_acts (cause : BreakCause) (s : State) :
    ActsOrKeeps s (.frameBroken cause) (execFrameBroken cause s) := by
  unfold execFrameBroken
  split
  · next hr => exact (Acts.frameBroken hr).actsOrKeeps
  · exact actsOrKeeps_self s _

theorem execTransmissionComplete_acts (s : State) :
    ActsOrKeeps s .transmissionComplete (execTransmissionComplete s) := by
  unfold execTransmissionComplete
  split
  · next hf => exact (Acts.transmissionComplete hf).actsOrKeeps
  · exact actsOrKeeps_self s _

theorem execWriteComplete_acts (s : State) : ActsOrKeeps s .writeComplete (execWriteComplete s) := by
  unfold execWriteComplete
  split
  · next ha => exact ite_acts fun hl => .writeComplete ha hl
  all_goals exact actsOrKeeps_self s _

theorem execCutComplete_acts (s : State) : ActsOrKeeps s .cutComplete (execCutComplete s) := by
  unfold execCutComplete
  split
  · next ha => exact ite_acts fun hl => .cutComplete ha hl
  all_goals exact actsOrKeeps_self s _

theorem execEraseComplete_acts (s : State) : ActsOrKeeps s .eraseComplete (execEraseComplete s) := by
  unfold execEraseComplete
  split
  · next ha => exact ite_acts fun hl => .eraseComplete ha hl
  all_goals exact actsOrKeeps_self s _

theorem execProbeReading_acts (head : Byte) (value : BitVec 16) (check : Byte) (s : State) :
    ActsOrKeeps s (.probeReading head value check) (execProbeReading head value check s) :=
  ite_acts fun h => by
    simp only [Bool.and_eq_true, decide_eq_true_eq] at h
    exact .probeReading h.1.1 h.1.2 h.2

theorem execSelftestWaitExpiry_acts (s : State) : ActsOrKeeps s .selftestWaitExpiry (execSelftestWaitExpiry s) :=
  ite_acts fun h => by
    simp only [Bool.and_eq_true, decide_eq_true_eq] at h
    exact .selftestWaitExpiry h.1 h.2

/-- Every command completes: it acts, or it leaves the state as it was (assumption 3). -/
theorem exec_acts (c : Instr) (s : State) : ActsOrKeeps s c (exec c s) := by
  cases c with
  | powerOn => exact Acts.powerOn.actsOrKeeps
  | supplyLow => exact Acts.supplyLow.actsOrKeeps
  | resetLine => exact Acts.resetLine.actsOrKeeps
  | linkRestart => exact ite_acts .linkRestart
  | startDone x => exact ite_acts (.startDone x)
  | strobe => exact execStrobe_acts s
  | sampleSet v0 v1 v2 v3 tags check => exact execSampleSet_acts v0 v1 v2 v3 tags check s
  | selftestWaitExpiry => exact execSelftestWaitExpiry_acts s
  | weighingComplete => exact execWeighingComplete_acts s
  | loneDeclaration p => exact execLoneDeclaration_acts p s
  | cederWaitExpiry slot => exact execCederWaitExpiry_acts slot s
  | ownerWaitExpiry slot => exact execOwnerWaitExpiry_acts slot s
  | confirmationWaitExpiry slot => exact execConfirmationWaitExpiry_acts slot s
  | peerHalfExpiry sender ref => exact ite_acts .peerHalfExpiry
  | gapTimerExpiry => exact execGapTimerExpiry_acts s
  | presenceLineChange level => exact execPresenceLineChange_acts level s
  | debounceExpiry => exact execDebounceExpiry_acts s
  | stuckExpiry => exact execStuckExpiry_acts s
  | probeReading head value check => exact execProbeReading_acts head value check s
  | stalenessExpiry probe => exact ite_acts .stalenessExpiry
  | freshnessExpiry => exact ite_acts .freshnessExpiry
  | heldTimerExpiry => exact ite_acts .heldTimerExpiry
  | beaconTimerExpiry => exact execBeaconTimerExpiry_acts s
  | frameComplete kind source dest payload crc => exact execFrameComplete_acts kind source dest payload crc s
  | frameBroken cause => exact execFrameBroken_acts cause s
  | beaconReceived => exact execBeaconReceived_acts s
  | lossExpiry station => exact (Acts.lossExpiry station).actsOrKeeps
  | halfAxleReceived => exact execHalfAxleReceived_acts s
  | mergeTakeReceived =>
    rw [exec_mergeTakeReceived]
    exact onMerge_acts (fun _ _ _ => .mergeTakeReceived) fun _ _ => .malformedTake
  | mergeCedeReceived =>
    rw [exec_mergeCedeReceived]
    exact onMerge_acts (fun _ _ _ => .mergeCedeReceived) fun _ _ => .malformedCede
  | mergeRefuseReceived =>
    rw [exec_mergeRefuseReceived]
    exact onMerge_acts (fun _ _ _ => .mergeRefuseReceived) fun _ _ => .malformedRefuse
  | slotBegin => exact execSlotBegin_acts s
  | collision => exact execCollision_acts s
  | transmissionComplete => exact execTransmissionComplete_acts s
  | hold => exact onCommand_acts fun _ _ => .hold
  | resume => exact onCommand_acts fun _ _ => .resume
  | holdTimerExpiry => exact ite_acts .holdTimerExpiry
  | tempRequest => exact onCommand_acts fun _ _ => .tempRequest
  | screen => exact onCommand_acts fun _ _ => .screen
  | rezero => exact onCommand_acts fun _ _ => .rezero
  | tableRead => exact onCommand_acts fun _ _ => .tableRead
  | tableWrite => exact onCommand_acts fun _ _ => .tableWrite
  | tableCut => exact onCommand_acts fun _ _ => .tableCut
  | lock => exact onCommand_acts fun _ _ => .lock
  | erase => exact onCommand_acts fun _ _ => .erase
  | restart => exact onCommand_acts fun _ _ => .restart
  | writeComplete => exact execWriteComplete_acts s
  | cutComplete => exact execCutComplete_acts s
  | eraseComplete => exact execEraseComplete_acts s
  | resetCauseEnd cause => exact (Acts.resetCauseEnd cause).actsOrKeeps
  | startBitSeen => exact execStartBitSeen_acts s

/-- What a command has done when it has answered a next state. -/
theorem exec_next_acts {c : Instr} {s t : State} (h : exec c s = .next t) : t = s ∨ Acts s c t := by
  obtain ⟨u, hu, hacts⟩ := exec_acts c s
  obtain rfl := Host.Outcome.next.inj (hu.symm.trans h)
  exact hacts

end Sys2Proof.Machine

namespace Sys2Proof.Machine

open Sys2Proof

/-! The blocks that the remaining operations leave as they are: a frame taken from the receive queue, the commands of the
link, the resets and the end of START. -/

@[simp] theorem taken_frame (rest : List RxFrame) (s : State) :
    (taken rest s).tick = s.tick ∧ (taken rest s).outstanding = s.outstanding ∧ (taken rest s).ctl = s.ctl ∧
    (taken rest s).straps = s.straps ∧ (taken rest s).raised = s.raised ∧ (taken rest s).setup = s.setup ∧
    (taken rest s).pins = s.pins ∧ (taken rest s).det = s.det ∧ (taken rest s).pairer = s.pairer ∧
    (taken rest s).weigh = s.weigh ∧ (taken rest s).temp = s.temp ∧ (taken rest s).former = s.former ∧
    (taken rest s).veh = s.veh ∧ (taken rest s).screenOn = s.screenOn ∧ (taken rest s).peers = s.peers ∧
    (taken rest s).cal = s.cal ∧ (taken rest s).counters = s.counters ∧ (taken rest s).pending = s.pending := by
  and_intros <;> rfl

@[simp] theorem holdNow_frame (s : State) :
    (holdNow s).tick = s.tick ∧ (holdNow s).outstanding = s.outstanding ∧ (holdNow s).ctl = s.ctl ∧
    (holdNow s).straps = s.straps ∧ (holdNow s).raised = s.raised ∧ (holdNow s).setup = s.setup ∧
    (holdNow s).pins = s.pins ∧ (holdNow s).det = s.det ∧ (holdNow s).pairer = s.pairer ∧
    (holdNow s).weigh = s.weigh ∧ (holdNow s).temp = s.temp ∧ (holdNow s).former = s.former ∧
    (holdNow s).veh = s.veh ∧ (holdNow s).screenOn = s.screenOn ∧ (holdNow s).peers = s.peers ∧
    (holdNow s).cal = s.cal ∧ (holdNow s).counters = s.counters ∧ (holdNow s).pending = s.pending := by
  and_intros <;> rfl

@[simp] theorem endHold_frame (s : State) :
    (endHold s).tick = s.tick ∧ (endHold s).outstanding = s.outstanding ∧ (endHold s).ctl = s.ctl ∧
    (endHold s).straps = s.straps ∧ (endHold s).raised = s.raised ∧ (endHold s).setup = s.setup ∧
    (endHold s).pins = s.pins ∧ (endHold s).det = s.det ∧ (endHold s).pairer = s.pairer ∧
    (endHold s).weigh = s.weigh ∧ (endHold s).temp = s.temp ∧ (endHold s).former = s.former ∧
    (endHold s).veh = s.veh ∧ (endHold s).screenOn = s.screenOn ∧ (endHold s).peers = s.peers ∧
    (endHold s).cal = s.cal ∧ (endHold s).counters = s.counters ∧ (endHold s).pending = s.pending := by
  and_intros <;> rfl

@[simp] theorem holdCommand_frame (f : RxFrame) (s : State) :
    (plainCommand holdNow f s).tick = s.tick ∧ (plainCommand holdNow f s).outstanding = s.outstanding ∧
    (plainCommand holdNow f s).ctl = s.ctl ∧ (plainCommand holdNow f s).straps = s.straps ∧
    (plainCommand holdNow f s).setup = s.setup ∧ (plainCommand holdNow f s).pins = s.pins ∧
    (plainCommand holdNow f s).det = s.det ∧ (plainCommand holdNow f s).pairer = s.pairer ∧
    (plainCommand holdNow f s).weigh = s.weigh ∧ (plainCommand holdNow f s).temp = s.temp ∧
    (plainCommand holdNow f s).former = s.former ∧ (plainCommand holdNow f s).veh = s.veh ∧
    (plainCommand holdNow f s).screenOn = s.screenOn ∧ (plainCommand holdNow f s).peers = s.peers ∧
    (plainCommand holdNow f s).cal = s.cal ∧ (plainCommand holdNow f s).pending = s.pending := by
  unfold plainCommand refuseField
  split <;> simp

@[simp] theorem resumeCommand_frame (f : RxFrame) (s : State) :
    (plainCommand endHold f s).tick = s.tick ∧ (plainCommand endHold f s).outstanding = s.outstanding ∧
    (plainCommand endHold f s).ctl = s.ctl ∧ (plainCommand endHold f s).straps = s.straps ∧
    (plainCommand endHold f s).setup = s.setup ∧ (plainCommand endHold f s).pins = s.pins ∧
    (plainCommand endHold f s).det = s.det ∧ (plainCommand endHold f s).pairer = s.pairer ∧
    (plainCommand endHold f s).weigh = s.weigh ∧ (plainCommand endHold f s).temp = s.temp ∧
    (plainCommand endHold f s).former = s.former ∧ (plainCommand endHold f s).veh = s.veh ∧
    (plainCommand endHold f s).screenOn = s.screenOn ∧ (plainCommand endHold f s).peers = s.peers ∧
    (plainCommand endHold f s).cal = s.cal ∧ (plainCommand endHold f s).pending = s.pending := by
  unfold plainCommand refuseField
  split <;> simp

@[simp] theorem tempRequest_frame (f : RxFrame) (s : State) :
    (plainCommand offerTemperature f s).tick = s.tick ∧
    (plainCommand offerTemperature f s).outstanding = s.outstanding ∧
    (plainCommand offerTemperature f s).ctl = s.ctl ∧ (plainCommand offerTemperature f s).straps = s.straps ∧
    (plainCommand offerTemperature f s).setup = s.setup ∧ (plainCommand offerTemperature f s).pins = s.pins ∧
    (plainCommand offerTemperature f s).det = s.det ∧ (plainCommand offerTemperature f s).pairer = s.pairer ∧
    (plainCommand offerTemperature f s).weigh = s.weigh ∧ (plainCommand offerTemperature f s).former = s.former ∧
    (plainCommand offerTemperature f s).veh = s.veh ∧ (plainCommand offerTemperature f s).screenOn = s.screenOn ∧
    (plainCommand offerTemperature f s).peers = s.peers ∧ (plainCommand offerTemperature f s).cal = s.cal ∧
    (plainCommand offerTemperature f s).pending = s.pending := by
  unfold plainCommand refuseField
  split <;> simp

@[simp] theorem lockCommand_frame (f : RxFrame) (s : State) :
    (memoryCommand takeLock f s).tick = s.tick ∧ (memoryCommand takeLock f s).outstanding = s.outstanding ∧
    (memoryCommand takeLock f s).ctl = s.ctl ∧ (memoryCommand takeLock f s).straps = s.straps ∧
    (memoryCommand takeLock f s).setup = s.setup ∧ (memoryCommand takeLock f s).pins = s.pins ∧
    (memoryCommand takeLock f s).det = s.det ∧ (memoryCommand takeLock f s).pairer = s.pairer ∧
    (memoryCommand takeLock f s).weigh = s.weigh ∧ (memoryCommand takeLock f s).temp = s.temp ∧
    (memoryCommand takeLock f s).former = s.former ∧ (memoryCommand takeLock f s).veh = s.veh ∧
    (memoryCommand takeLock f s).screenOn = s.screenOn ∧ (memoryCommand takeLock f s).peers = s.peers ∧
    (memoryCommand takeLock f s).pending = s.pending := by
  unfold memoryCommand refuseField
  (repeat' split) <;> simp

@[simp] theorem eraseCommand_frame (f : RxFrame) (s : State) :
    (memoryCommand takeErase f s).tick = s.tick ∧ (memoryCommand takeErase f s).outstanding = s.outstanding ∧
    (memoryCommand takeErase f s).ctl = s.ctl ∧ (memoryCommand takeErase f s).straps = s.straps ∧
    (memoryCommand takeErase f s).setup = s.setup ∧ (memoryCommand takeErase f s).pins = s.pins ∧
    (memoryCommand takeErase f s).det = s.det ∧ (memoryCommand takeErase f s).pairer = s.pairer ∧
    (memoryCommand takeErase f s).weigh = s.weigh ∧ (memoryCommand takeErase f s).temp = s.temp ∧
    (memoryCommand takeErase f s).former = s.former ∧ (memoryCommand takeErase f s).veh = s.veh ∧
    (memoryCommand takeErase f s).screenOn = s.screenOn ∧ (memoryCommand takeErase f s).peers = s.peers ∧
    (memoryCommand takeErase f s).pending = s.pending := by
  unfold memoryCommand refuseField
  (repeat' split) <;> simp

@[simp] theorem resetBlocks_frame (kind : ResetKind) (s : State) :
    (resetBlocks kind s).straps = s.straps ∧ (resetBlocks kind s).setup = s.setup ∧
    (resetBlocks kind s).pins = s.pins ∧ (resetBlocks kind s).pending = s.pending := by
  and_intros <;> rfl

@[simp] theorem supplyFalls_frame (s : State) :
    (supplyFalls s).tick = s.tick ∧ (supplyFalls s).outstanding = s.outstanding ∧ (supplyFalls s).ctl = s.ctl ∧
    (supplyFalls s).straps = s.straps ∧ (supplyFalls s).raised = s.raised ∧ (supplyFalls s).setup = s.setup ∧
    (supplyFalls s).det = s.det ∧ (supplyFalls s).pairer = s.pairer ∧ (supplyFalls s).weigh = s.weigh ∧
    (supplyFalls s).temp = s.temp ∧ (supplyFalls s).former = s.former ∧ (supplyFalls s).veh = s.veh ∧
    (supplyFalls s).screenOn = s.screenOn ∧ (supplyFalls s).peers = s.peers ∧ (supplyFalls s).link = s.link ∧
    (supplyFalls s).cal = s.cal ∧ (supplyFalls s).counters = s.counters ∧ (supplyFalls s).pending = s.pending := by
  and_intros <;> rfl

@[simp] theorem withSupplyLow_frame (n : Nat) (s : State) :
    (withSupplyLow n s).tick = s.tick ∧ (withSupplyLow n s).outstanding = s.outstanding ∧
    (withSupplyLow n s).straps = s.straps ∧ (withSupplyLow n s).raised = s.raised ∧
    (withSupplyLow n s).setup = s.setup ∧ (withSupplyLow n s).pins = s.pins ∧ (withSupplyLow n s).det = s.det ∧
    (withSupplyLow n s).pairer = s.pairer ∧ (withSupplyLow n s).weigh = s.weigh ∧ (withSupplyLow n s).temp = s.temp ∧
    (withSupplyLow n s).former = s.former ∧ (withSupplyLow n s).veh = s.veh ∧
    (withSupplyLow n s).screenOn = s.screenOn ∧ (withSupplyLow n s).peers = s.peers ∧
    (withSupplyLow n s).link = s.link ∧ (withSupplyLow n s).cal = s.cal ∧ (withSupplyLow n s).counters = s.counters ∧
    (withSupplyLow n s).pending = s.pending := by
  and_intros <;> rfl

@[simp] theorem enterStart_frame (kind : ResetKind) (s : State) :
    (enterStart kind s).outstanding = s.outstanding ∧ (enterStart kind s).straps = s.straps ∧
    (enterStart kind s).raised = s.raised ∧ (enterStart kind s).setup = s.setup ∧ (enterStart kind s).pins = s.pins ∧
    (enterStart kind s).det = s.det ∧ (enterStart kind s).pairer = s.pairer ∧ (enterStart kind s).weigh = s.weigh ∧
    (enterStart kind s).temp = s.temp ∧ (enterStart kind s).former = s.former ∧ (enterStart kind s).veh = s.veh ∧
    (enterStart kind s).screenOn = s.screenOn ∧ (enterStart kind s).peers = s.peers ∧
    (enterStart kind s).link = s.link ∧ (enterStart kind s).cal = s.cal ∧ (enterStart kind s).counters = s.counters ∧
    (enterStart kind s).pending = s.pending := by
  and_intros <;> rfl

@[simp] theorem endCause_frame (cause : HeldCause) (s : State) :
    (endCause cause s).tick = s.tick ∧ (endCause cause s).outstanding = s.outstanding ∧
    (endCause cause s).ctl = s.ctl ∧ (endCause cause s).straps = s.straps ∧ (endCause cause s).raised = s.raised ∧
    (endCause cause s).setup = s.setup ∧ (endCause cause s).det = s.det ∧ (endCause cause s).pairer = s.pairer ∧
    (endCause cause s).weigh = s.weigh ∧ (endCause cause s).temp = s.temp ∧ (endCause cause s).former = s.former ∧
    (endCause cause s).veh = s.veh ∧ (endCause cause s).screenOn = s.screenOn ∧ (endCause cause s).peers = s.peers ∧
    (endCause cause s).link = s.link ∧ (endCause cause s).cal = s.cal ∧ (endCause cause s).counters = s.counters ∧
    (endCause cause s).pending = s.pending := by
  cases cause <;> exact ⟨rfl, rfl, rfl, rfl, rfl, rfl, rfl, rfl, rfl, rfl, rfl, rfl, rfl, rfl, rfl, rfl, rfl, rfl⟩

@[simp] theorem leaveReset_frame (s : State) :
    (leaveReset s).outstanding = s.outstanding ∧ (leaveReset s).straps = s.straps ∧
    (leaveReset s).raised = s.raised ∧ (leaveReset s).setup = s.setup ∧ (leaveReset s).pins = s.pins ∧
    (leaveReset s).det = s.det ∧ (leaveReset s).pairer = s.pairer ∧ (leaveReset s).weigh = s.weigh ∧
    (leaveReset s).temp = s.temp ∧ (leaveReset s).former = s.former ∧ (leaveReset s).veh = s.veh ∧
    (leaveReset s).screenOn = s.screenOn ∧ (leaveReset s).peers = s.peers ∧ (leaveReset s).link = s.link ∧
    (leaveReset s).cal = s.cal ∧ (leaveReset s).counters = s.counters ∧ (leaveReset s).pending = s.pending := by
  unfold leaveReset
  (repeat' split) <;> simp

@[simp] theorem startWork_frame (x : Straps) (s : State) :
    (startWork x s).tick = s.tick ∧ (startWork x s).outstanding = s.outstanding ∧ (startWork x s).ctl = s.ctl ∧
    (startWork x s).raised = s.raised ∧ (startWork x s).pins = s.pins ∧ (startWork x s).det = s.det ∧
    (startWork x s).pairer = s.pairer ∧ (startWork x s).weigh = s.weigh ∧ (startWork x s).former = s.former ∧
    (startWork x s).screenOn = s.screenOn ∧ (startWork x s).peers = s.peers ∧ (startWork x s).counters = s.counters ∧
    (startWork x s).pending = s.pending := by
  and_intros <;> rfl

@[simp] theorem enterSelftest_frame (s : State) :
    (enterSelftest s).tick = s.tick ∧ (enterSelftest s).outstanding = s.outstanding ∧
    (enterSelftest s).straps = s.straps ∧ (enterSelftest s).raised = s.raised ∧ (enterSelftest s).setup = s.setup ∧
    (enterSelftest s).pins = s.pins ∧ (enterSelftest s).det = s.det ∧ (enterSelftest s).pairer = s.pairer ∧
    (enterSelftest s).weigh = s.weigh ∧ (enterSelftest s).temp = s.temp ∧ (enterSelftest s).former = s.former ∧
    (enterSelftest s).veh = s.veh ∧ (enterSelftest s).screenOn = s.screenOn ∧ (enterSelftest s).peers = s.peers ∧
    (enterSelftest s).cal = s.cal ∧ (enterSelftest s).counters = s.counters ∧ (enterSelftest s).pending = s.pending := by
  and_intros <;> rfl

/-! ### The machine as a whole -/

/-- Settles O1: a step is the command at the front of the queue, run on the state with the rest of the queue. -/
theorem stepRunsFrontCommand : Obligations.StepRunsFrontCommand := by
  unfold Obligations.StepRunsFrontCommand
  refine ⟨fun c rest s hq => ?_, fun s hq => ?_⟩
  all_goals rw [step, hq]

/-- What holds at every command holds at every step: a step is an idle step or a command on the state with the rest of the
queue. -/
theorem step_exec {s t : State} (h : step s = .next t) :
    t = s ∨ ∃ c rest, exec c (s.withPending rest) = .next t := by
  unfold step at h
  split at h
  · next c rest _ => exact .inr ⟨c, rest, h⟩
  · exact .inl (Host.Outcome.next.inj h).symm

theorem Acts.pending {s t : State} {c : Instr} (h : Acts s c t) : t.pending = s.pending := by
  cases h with
  | _ => simp

/-- Settles O2: every command acts or keeps the state, and no act touches the queue of waiting commands. -/
theorem everyCommandCompletes : Obligations.EveryCommandCompletes := by
  unfold Obligations.EveryCommandCompletes
  intro c s
  obtain ⟨t, ht, rfl | hacts⟩ := exec_acts c s
  · exact ⟨t, ht, rfl⟩
  · exact ⟨t, ht, hacts.pending⟩

end Sys2Proof.Machine

namespace Sys2Proof.Machine

open Sys2Proof

/-! Station control: which operations move the tick counter, the station state, the reset cause, the supply-low count and the
findings. -/

/-! ### The tick counter (R1) -/

@[simp] theorem strobeEffect_tick (s : State) : (strobeEffect s).tick = s.tick + 1 := by
  unfold strobeEffect
  split <;> simp [advanceTick]

@[simp] theorem resetBlocks_tick (kind : ResetKind) (s : State) : (resetBlocks kind s).tick = 0 := rfl

@[simp] theorem enterStart_tick (kind : ResetKind) (s : State) : (enterStart kind s).tick = 0 := rfl

theorem leaveReset_tick (s : State) : (leaveReset s).tick = s.tick ∨ (leaveReset s).tick = 0 := by
  unfold leaveReset
  (repeat' split) <;> simp

theorem Acts.tick {s t : State} {c : Instr} (h : Acts s c t) (hne : t.tick ≠ s.tick) :
    (c = .strobe ∧ t.tick = s.tick + 1) ∨ ((isReset c = true ∨ ∃ x, c = .resetCauseEnd x) ∧ t.tick = 0) := by
  cases h with
  | resetCauseEnd cause =>
    rcases leaveReset_tick (endCause cause s) with htick | htick
    · exact absurd (htick.trans (by simp)) hne
    · exact .inr ⟨.inr ⟨cause, rfl⟩, htick⟩
  | _ => simp [isReset] at hne ⊢

/-- Settles O11: of all the acts, only a tick, a reset and the end of a reset cause move the tick counter. -/
theorem tickCounterMovesByTicksAlone : Obligations.TickCounterMovesByTicksAlone := by
  unfold Obligations.TickCounterMovesByTicksAlone
  intro c s t h hne
  rcases exec_next_acts h with rfl | hacts
  · exact absurd rfl hne
  · exact hacts.tick hne

/-! ### START (R181) -/

theorem working_of_start {s : State} (h : s.ctl.station = .start) : working s = false := by simp [working, h]

/-- Before SELFTEST, with every block at its value after reset, nothing that a command other than those of START waits for
has come about. -/
theorem Acts.quiet_keeps {s t : State} {c : Instr} (hw : working s = false) (hq : Quiet s)
    (hc : actsInStart c = false) (h : Acts s c t) : t = s := by
  obtain ⟨hout, -, hbeacon, -, -, -, -, hweigh, htemp, hformer, hveh, hpeers, hlink, hact, -⟩ := hq
  have hlinks : s.link.immediate = none ∧ s.link.queue = [] ∧ s.link.hold = none := by rw [hlink]; exact ⟨rfl, rfl, rfl⟩
  obtain ⟨himm, hqueue, hhold⟩ := hlinks
  have hfront : ∀ kind f rest, ¬AtFront kind f rest s := fun _ _ _ ⟨h, _⟩ => by simp [hw] at h
  cases h with
  | powerOn => cases hc
  | supplyLow => cases hc
  | resetLine => cases hc
  | linkRestart => cases hc
  | startDone => cases hc
  | resetCauseEnd => cases hc
  | presenceLineChange => cases hc
  | selftestWaitExpiry h => simp [working, h] at hw
  | strobeInStart => cases hc
  | strobe => cases hc
  | goodSet h => simp [hout] at h
  | badSet h => simp [hout] at h
  | weighingComplete h => simp [hweigh] at h
  | @loneDeclaration p _ _ h => cases p <;> simp [hformer, Former.reset, PerPath.get, takeFirst] at h
  | offeredExpires h => simp [dueMerge, hformer, Former.reset] at h
  | cededExpires h => simp [dueMerge, hformer, Former.reset] at h
  | ownerWaitExpiry h => simp [dueMerge, hformer, Former.reset] at h
  | confirmationWaitExpiry h => simp [dueMerge, hformer, Former.reset] at h
  | peerHalfExpiry h => simp [hformer, Former.reset] at h
  | gapTimerExpiry h => simp [gapDue, openEntry, hveh, Assembler.reset] at h
  | debounceExpiry h => simp [hveh, Assembler.reset] at h
  | stuckExpiry h => simp [hveh, Assembler.reset] at h
  | probeReading h => simp [hw] at h
  | @stalenessExpiry i h => cases i <;> simp [stalenessDue, htemp, TempUnit.reset, PerProbe.get, Probe.reset] at h
  | freshnessExpiry h => simp [isDue, htemp, TempUnit.reset] at h
  | heldTimerExpiry h => simp [isDue, htemp, TempUnit.reset] at h
  | beaconTimerExpiry h => simp [hbeacon] at h
  | overLength h => simp [readingStamp, hw] at h
  | frameComplete h => simp [readingStamp, hw] at h
  | frameBroken h => simp [readingStamp, hw] at h
  | startBitIdle h => simp [hw] at h
  | startBitQuiet h => simp [hw] at h
  | slotStarts h => simp [lineQuiet, hw] at h
  | slotPasses h => simp [lineQuiet, hw] at h
  | abandons h => simp [sendingFrame, himm, hqueue] at h
  | collides h => simp [sendingFrame, himm, hqueue] at h
  | transmissionComplete h => simp [sendingFrame, himm, hqueue] at h
  | lossExpiry station => rw [hpeers]; exact (congrArg s.withPeers hpeers.symm).trans s.withPeers_self
  | holdTimerExpiry h => simp [isDue, hhold] at h
  | writeComplete h => simp [hact] at h
  | cutComplete h => simp [hact] at h
  | eraseComplete h => simp [hact] at h
  | _ => exact absurd ‹AtFront _ _ _ s› (hfront _ _ _)

/-- Settles O12: every act of a command outside START's own needs something that START does not have. -/
theorem startReceivesAndSendsNothing : Obligations.StartReceivesAndSendsNothing := by
  unfold Obligations.StartReceivesAndSendsNothing
  intro c s hs hq hc
  obtain ⟨t, ht, rfl | hacts⟩ := exec_acts c s
  · exact ht
  · rwa [hacts.quiet_keeps (working_of_start hs) hq hc] at ht

end Sys2Proof.Machine

namespace Sys2Proof.Machine

open Sys2Proof

/-! ### Station control at the end of an event, at a beacon and at the end of the self-test wait -/

@[simp] theorem endEvent_control (before s : State) :
    (endEvent before s).ctl.resetCause = s.ctl.resetCause ∧
    (endEvent before s).ctl.supplyLowCount = s.ctl.supplyLowCount ∧
    (endEvent before s).ctl.findings = s.ctl.findings ∧ (endEvent before s).ctl.waitExpiry = s.ctl.waitExpiry ∧
    (endEvent before s).ctl.beaconExpiry = s.ctl.beaconExpiry ∧
    (endEvent before s).ctl.reportCount = s.ctl.reportCount ∧
    (endEvent before s).ctl.restartPending = s.ctl.restartPending := by
  rcases endEvent_ctl before s with h | ⟨-, -, h⟩ <;> simp [h]

theorem endEvent_station (before s : State) :
    (endEvent before s).ctl.station =
      if s.ctl.station = .settling ∧ s.det.all settled = true then .run else s.ctl.station := by
  simp only [endEvent, startRun_frame, endSettling]
  split <;> simp

/-- An event that ends with a new station state has ended SETTLING with every detector READY or FAULT (R183). -/
theorem endEvent_station_ne {before s : State} (h : (endEvent before s).ctl.station ≠ s.ctl.station) :
    s.ctl.station = .settling ∧ (endEvent before s).ctl.station = .run ∧
      (endEvent before s).det.all settled = true := by
  rw [endEvent_station] at h ⊢
  split at h
  · next hset => simp [hset]
  · exact absurd rfl h

@[simp] theorem scheduledReport_control (s : State) :
    (scheduledReport s).ctl.resetCause = s.ctl.resetCause ∧
    (scheduledReport s).ctl.supplyLowCount = s.ctl.supplyLowCount ∧
    (scheduledReport s).ctl.findings = s.ctl.findings ∧ (scheduledReport s).ctl.waitExpiry = s.ctl.waitExpiry ∧
    (scheduledReport s).ctl.beaconExpiry = s.ctl.beaconExpiry ∧
    (scheduledReport s).ctl.restartPending = s.ctl.restartPending ∧ (scheduledReport s).ctl.station = s.ctl.station := by
  unfold scheduledReport
  (repeat' split) <;> simp

@[simp] theorem formBeacon_control (s : State) :
    (formBeacon s).ctl.resetCause = s.ctl.resetCause ∧ (formBeacon s).ctl.supplyLowCount = s.ctl.supplyLowCount ∧
    (formBeacon s).ctl.findings = s.ctl.findings ∧ (formBeacon s).ctl.waitExpiry = s.ctl.waitExpiry ∧
    (formBeacon s).ctl.beaconExpiry = s.ctl.beaconExpiry ∧ (formBeacon s).ctl.restartPending = s.ctl.restartPending ∧
    (formBeacon s).ctl.station = s.ctl.station := by
  simp [formBeacon]

@[simp] theorem endSelftest_control (silent : Bool) (s : State) :
    (endSelftest silent s).ctl.resetCause = s.ctl.resetCause ∧
    (endSelftest silent s).ctl.supplyLowCount = s.ctl.supplyLowCount ∧
    (endSelftest silent s).ctl.restartPending = s.ctl.restartPending := by
  simp [endSelftest]

@[simp] theorem endSelftest_station (silent : Bool) (s : State) :
    (endSelftest silent s).ctl.station = .settling := rfl

@[simp] theorem endSelftest_findings (silent : Bool) (s : State) :
    (endSelftest silent s).ctl.findings = ⟨silent, s.cal.failed⟩ := by
  simp [endSelftest]

@[simp] theorem endSelftest_beaconExpiry (silent : Bool) (s : State) :
    (endSelftest silent s).ctl.beaconExpiry = some (after s.tick beaconPeriod) := rfl

@[simp] theorem endSelftest_waitExpiry (silent : Bool) (s : State) :
    (endSelftest silent s).ctl.waitExpiry = none := by
  simp [endSelftest]

/-! ### Station control over a set of samples -/

@[simp] theorem takeChannel_control (u : Tick) (ch : Chan) (x : Sample) (s : State) :
    (takeChannel u ch x s).ctl.resetCause = s.ctl.resetCause ∧
    (takeChannel u ch x s).ctl.supplyLowCount = s.ctl.supplyLowCount ∧
    (takeChannel u ch x s).ctl.findings = s.ctl.findings ∧ (takeChannel u ch x s).ctl.waitExpiry = s.ctl.waitExpiry ∧
    (takeChannel u ch x s).ctl.beaconExpiry = s.ctl.beaconExpiry ∧
    (takeChannel u ch x s).ctl.reportCount = s.ctl.reportCount ∧
    (takeChannel u ch x s).ctl.restartPending = s.ctl.restartPending := by
  simp [takeChannel]

@[simp] theorem takeSet_control (u : Tick) (x : Quad Sample) (s : State) :
    (takeSet u x s).ctl.resetCause = s.ctl.resetCause ∧ (takeSet u x s).ctl.supplyLowCount = s.ctl.supplyLowCount ∧
    (takeSet u x s).ctl.findings = s.ctl.findings ∧ (takeSet u x s).ctl.waitExpiry = s.ctl.waitExpiry ∧
    (takeSet u x s).ctl.beaconExpiry = s.ctl.beaconExpiry ∧ (takeSet u x s).ctl.reportCount = s.ctl.reportCount ∧
    (takeSet u x s).ctl.restartPending = s.ctl.restartPending := by
  simp [takeSet]

theorem takeChannel_station (u : Tick) (ch : Chan) (x : Sample) (s : State) :
    (takeChannel u ch x s).ctl.station = s.ctl.station ∨
      (s.ctl.station = .settling ∧ (takeChannel u ch x s).det.all settled = true ∧
        (takeChannel u ch x s).ctl.station = .run) := by
  rcases takeChannel_ctl u ch x s with h | ⟨hset, hall, h⟩
  · exact .inl (by rw [h])
  · exact .inr ⟨hset, hall, by rw [h]⟩

theorem takeChannel_station_of_run {u : Tick} {ch : Chan} {x : Sample} {s : State} (h : s.ctl.station = .run) :
    (takeChannel u ch x s).ctl.station = .run := by
  rcases takeChannel_station u ch x s with hs | ⟨hset, -, -⟩
  · rw [hs, h]
  · simp [h] at hset

/-- The detectors after the events of the first channels of a set. -/
theorem takeChannel_detectorsAt (u : Tick) (x : Quad Sample) (s : State) :
    (takeChannel u .al x.al s).det = detectorsAt s (takeSet u x s) 1 ∧
    (takeChannel u .ar x.ar (takeChannel u .al x.al s)).det = detectorsAt s (takeSet u x s) 2 ∧
    (takeChannel u .bl x.bl (takeChannel u .ar x.ar (takeChannel u .al x.al s))).det =
      detectorsAt s (takeSet u x s) 3 ∧
    (takeSet u x s).det = detectorsAt s (takeSet u x s) 4 := by
  simp [detectorsAt, Quad.set, Quad.get]

/-- A set that ends with a new station state has ended SETTLING at the event of one of its channels, after which every
detector was READY or FAULT (R183, assumption 35). -/
theorem takeSet_station_ne {u : Tick} {x : Quad Sample} {s : State}
    (h : (takeSet u x s).ctl.station ≠ s.ctl.station) :
    s.ctl.station = .settling ∧ (takeSet u x s).ctl.station = .run ∧
      ∃ k, 1 ≤ k ∧ k ≤ 4 ∧ (detectorsAt s (takeSet u x s) k).all settled = true := by
  obtain ⟨d1, d2, d3, d4⟩ := takeChannel_detectorsAt u x s
  have hset : takeSet u x s = takeChannel u .br x.br (takeChannel u .bl x.bl
      (takeChannel u .ar x.ar (takeChannel u .al x.al s))) := rfl
  rcases takeChannel_station u .al x.al s with h1 | ⟨hs, hall, h1⟩
  · rcases takeChannel_station u .ar x.ar (takeChannel u .al x.al s) with h2 | ⟨hs, hall, h2⟩
    · rcases takeChannel_station u .bl x.bl (takeChannel u .ar x.ar (takeChannel u .al x.al s)) with
        h3 | ⟨hs, hall, h3⟩
      · rcases takeChannel_station u .br x.br (takeChannel u .bl x.bl (takeChannel u .ar x.ar
          (takeChannel u .al x.al s))) with h4 | ⟨hs, hall, h4⟩
        · exact absurd (by rw [hset, h4, h3, h2, h1]) h
        · exact ⟨by rw [← h1, ← h2, ← h3, hs], h4, 4, by omega, by omega, d4 ▸ hall⟩
      · exact ⟨by rw [← h1, ← h2, hs], takeChannel_station_of_run h3, 3, by omega, by omega, d3 ▸ hall⟩
    · exact ⟨by rw [← h1, hs], takeChannel_station_of_run (takeChannel_station_of_run h2), 2, by omega, by omega,
        d2 ▸ hall⟩
  · exact ⟨hs, takeChannel_station_of_run (takeChannel_station_of_run (takeChannel_station_of_run h1)), 1, by omega,
      by omega, d1 ▸ hall⟩

end Sys2Proof.Machine

namespace Sys2Proof.Machine

open Sys2Proof

/-! ### The table of station states (R181 to R183) -/

/-- The last row of the table of station states: SETTLING is left for RUN at an event after which every detector is READY or
FAULT. -/
def SettlingEnds (s t : State) : Prop :=
  s.ctl.station = .settling ∧ t.ctl.station = .run ∧ t.det.all settled = true

theorem endEvent_settlingEnds {before s x : State} (hx : x.ctl.station = s.ctl.station)
    (h : (endEvent before x).ctl.station ≠ s.ctl.station) : SettlingEnds s (endEvent before x) := by
  obtain ⟨hset, hrun, hall⟩ := endEvent_station_ne (hx ▸ h)
  exact ⟨hx ▸ hset, hrun, hall⟩

@[simp] theorem leaveReset_supplyLowCount (s : State) :
    (leaveReset s).ctl.supplyLowCount = s.ctl.supplyLowCount ∧ (leaveReset s).ctl.findings = s.ctl.findings := by
  unfold leaveReset enterStart
  (repeat' split) <;> simp

@[simp] theorem enterSelftest_control (s : State) :
    (enterSelftest s).ctl.supplyLowCount = s.ctl.supplyLowCount ∧
    (enterSelftest s).ctl.resetCause = s.ctl.resetCause ∧ (enterSelftest s).ctl.findings = s.ctl.findings :=
  ⟨rfl, rfl, rfl⟩

@[simp] theorem strobeEffect_control (s : State) :
    (strobeEffect s).ctl.supplyLowCount = s.ctl.supplyLowCount ∧
    (strobeEffect s).ctl.resetCause = s.ctl.resetCause ∧ (strobeEffect s).ctl.findings = s.ctl.findings := by
  unfold strobeEffect
  split <;> simp

@[simp] theorem firstGoodSet_control (s : State) :
    (firstGoodSet s).ctl.supplyLowCount = s.ctl.supplyLowCount ∧
    (firstGoodSet s).ctl.resetCause = s.ctl.resetCause := by
  unfold firstGoodSet
  split <;> simp

@[simp] theorem takeRestart_station (f : RxFrame) (s : State) :
    (takeRestart f s).ctl.station = s.ctl.station ∧ (takeRestart f s).ctl.resetCause = s.ctl.resetCause ∧
    (takeRestart f s).ctl.supplyLowCount = s.ctl.supplyLowCount ∧
    (takeRestart f s).ctl.findings = s.ctl.findings := by
  unfold takeRestart refuseField
  dsimp only
  (repeat' split) <;> simp

theorem takeRezero_station_ne {f : RxFrame} {s : State} (h : (takeRezero f s).ctl.station ≠ s.ctl.station) :
    SettlingEnds s (takeRezero f s) := by
  unfold takeRezero refuseField at h ⊢
  split at h
  · split at h
    · simp at h
    · next hm => exact if_neg hm ▸ endEvent_settlingEnds (by simp) h
  · simp at h

@[simp] theorem takeRezero_control (f : RxFrame) (s : State) :
    (takeRezero f s).ctl.resetCause = s.ctl.resetCause ∧
    (takeRezero f s).ctl.supplyLowCount = s.ctl.supplyLowCount ∧
    (takeRezero f s).ctl.findings = s.ctl.findings := by
  unfold takeRezero refuseField
  (repeat' split) <;> simp

/-- The set that passes its check while SELFTEST waits leaves SETTLING, or RUN when every detector is settled (R182). -/
theorem firstGoodSet_of_selftest {s : State} (h : s.ctl.station = .selftest) :
    firstGoodSet s = endEvent s (endSelftest false s) := if_pos h

theorem firstGoodSet_of_other {s : State} (h : s.ctl.station ≠ .selftest) : firstGoodSet s = s := if_neg h

/-- The end of the self-test wait leaves SETTLING, or RUN when every detector is settled. -/
theorem endEvent_endSelftest_station (before : State) (silent : Bool) (s : State) :
    (endEvent before (endSelftest silent s)).ctl.station = .settling ∨
      ((endEvent before (endSelftest silent s)).ctl.station = .run ∧
        (endEvent before (endSelftest silent s)).det.all settled = true) := by
  rw [endEvent_station]
  split
  · next h => exact .inr ⟨rfl, by simpa using h⟩
  · simp

theorem takeSet_selftest {u : Tick} {x : Quad Sample} {s : State} (h : s.ctl.station = .selftest) :
    (takeSet u x s).ctl.station = .selftest := by
  by_contra hne
  have := (takeSet_station_ne (h.symm ▸ hne)).1
  simp [h] at this

theorem takeSet_not_selftest {u : Tick} {x : Quad Sample} {s : State} (h : s.ctl.station ≠ .selftest) :
    (takeSet u x s).ctl.station ≠ .selftest := by
  by_cases hne : (takeSet u x s).ctl.station = s.ctl.station
  · rwa [hne]
  · simp [(takeSet_station_ne hne).2.1]

/-- A strobe that ends with a new station state has declared an outstanding set missing, and SETTLING ended at one of its
channels. -/
theorem strobeEffect_station_ne {s : State} (h : (strobeEffect s).ctl.station ≠ s.ctl.station) :
    s.ctl.station = .settling ∧ (strobeEffect s).ctl.station = .run ∧ s.outstanding.isSome = true ∧
      ∃ k, 1 ≤ k ∧ k ≤ 4 ∧ (detectorsAt s (strobeEffect s) k).all settled = true := by
  unfold strobeEffect at h ⊢
  split at h
  · next u hu =>
    obtain ⟨hset, hrun, k, h1, h4, hall⟩ := takeSet_station_ne fun heq => h (heq.trans (by simp))
    exact ⟨by simpa using hset, hrun, by simp [hu], k, h1, h4, by simpa [detectorsAt] using hall⟩
  · simp at h

/-- The end of a cause enters START from the reset it ends, or changes nothing but the pins (R180). -/
theorem leaveReset_cases (s : State) :
    leaveReset s = s ∨ ∃ kind, s.ctl.station = .inReset kind ∧ leaveReset s = enterStart kind s := by
  unfold leaveReset
  split
  · next kind hk =>
    split
    · exact .inl rfl
    · exact .inr ⟨kind, hk, rfl⟩
  all_goals exact .inl rfl

theorem isDue_iff {s : State} {e : Option Tick} : isDue s e = true ↔ ∃ u, e = some u ∧ reached s.tick u = true := by
  cases e <;> simp [isDue]

/-- Settles O7: the acts that can change the station state, each with its row of the table. -/
theorem stationStatesFollowTheirTable : Obligations.StationStatesFollowTheirTable := by
  unfold Obligations.StationStatesFollowTheirTable
  intro c s t h hne
  have hacts := (exec_next_acts h).resolve_left fun hst => hne (hst ▸ rfl)
  by_cases hend : SettlingEnds s t
  · exact .inr (.inr (.inr (.inr ⟨hend.1, hend.2.1, .inl hend.2.2⟩)))
  cases hacts with
  | powerOn => exact .inl ⟨rfl, .inl ⟨_, rfl⟩⟩
  | supplyLow => exact .inl ⟨rfl, .inl ⟨_, rfl⟩⟩
  | resetLine => exact .inl ⟨rfl, .inl ⟨_, rfl⟩⟩
  | linkRestart => exact .inl ⟨rfl, .inr ⟨rfl, rfl⟩⟩
  | resetCauseEnd cause =>
    rcases leaveReset_cases (endCause cause s) with hkeep | ⟨kind, hkind, hstart⟩
    · simp [hkeep] at hne
    · exact .inr (.inl ⟨⟨kind, by simpa using hkind⟩, ⟨cause, rfl⟩, by rw [hstart]; rfl⟩)
  | startDone x hs => exact .inr (.inr (.inl ⟨hs, ⟨x, rfl⟩, rfl⟩))
  | selftestWaitExpiry hs hdue =>
    obtain ⟨e, he, hr⟩ := isDue_iff.1 hdue
    exact .inr (.inr (.inr (.inl ⟨hs, .inl ⟨rfl, e, he, hr⟩, endEvent_endSelftest_station ..⟩)))
  | @goodSet v0 v1 v2 v3 tags check u hout hpass =>
    by_cases hs : s.ctl.station = .selftest
    · refine .inr (.inr (.inr (.inl ⟨hs, .inr ⟨v0, v1, v2, v3, tags, check, rfl, by simp [hout], hpass⟩, ?_⟩)))
      rw [firstGoodSet_of_selftest (takeSet_selftest (by simpa using hs))]
      exact endEvent_endSelftest_station ..
    · rw [firstGoodSet_of_other (takeSet_not_selftest (by simpa using hs))] at hne ⊢
      obtain ⟨hset, hrun, k, h1, h4, hall⟩ := takeSet_station_ne hne
      exact .inr (.inr (.inr (.inr ⟨by simpa using hset, hrun,
        .inr ⟨.inr ⟨v0, v1, v2, v3, tags, check, rfl⟩, by simp [hout], k, h1, h4, by simpa [detectorsAt] using hall⟩⟩)))
  | @badSet v0 v1 v2 v3 tags check u hout =>
    obtain ⟨hset, hrun, k, h1, h4, hall⟩ := takeSet_station_ne hne
    exact .inr (.inr (.inr (.inr ⟨by simpa using hset, hrun,
      .inr ⟨.inr ⟨v0, v1, v2, v3, tags, check, rfl⟩, by simp [hout], k, h1, h4, by simpa [detectorsAt] using hall⟩⟩)))
  | strobe =>
    obtain ⟨hset, hrun, hout, hk⟩ := strobeEffect_station_ne hne
    exact .inr (.inr (.inr (.inr ⟨hset, hrun, .inr ⟨.inl rfl, hout, hk⟩⟩)))
  | rezero =>
    obtain ⟨hset, hrun, hall⟩ := takeRezero_station_ne hne
    exact absurd ⟨by simpa using hset, hrun, hall⟩ hend
  | weighingComplete => exact absurd (endEvent_settlingEnds (by simp) hne) hend
  | loneDeclaration => exact absurd (endEvent_settlingEnds (by simp) hne) hend
  | offeredExpires => exact absurd (endEvent_settlingEnds (by simp) hne) hend
  | cededExpires => exact absurd (endEvent_settlingEnds (by simp) hne) hend
  | ownerWaitExpiry => exact absurd (endEvent_settlingEnds (by simp) hne) hend
  | confirmationWaitExpiry => exact absurd (endEvent_settlingEnds (by simp) hne) hend
  | gapTimerExpiry => exact absurd (endEvent_settlingEnds (by simp) hne) hend
  | presenceLineChange => exact absurd (endEvent_settlingEnds (by simp) hne) hend
  | debounceExpiry => exact absurd (endEvent_settlingEnds (by simp) hne) hend
  | stuckExpiry => exact absurd (endEvent_settlingEnds (by simp) hne) hend
  | halfAxleReceived => exact absurd (endEvent_settlingEnds (by simp) hne) hend
  | mergeTakeReceived => exact absurd (endEvent_settlingEnds (by simp) hne) hend
  | mergeCedeReceived => exact absurd (endEvent_settlingEnds (by simp) hne) hend
  | mergeRefuseReceived => exact absurd (endEvent_settlingEnds (by simp) hne) hend
  | _ => exact absurd (by simp) hne

/-! ### Straps, settings, reset cause, supply-low count and findings (R180 to R182) -/

theorem Acts.straps {s t : State} {c : Instr} (h : Acts s c t) (hc : ∀ x, c ≠ .startDone x) :
    t.straps = s.straps ∧ t.setup = s.setup := by
  cases h with
  | startDone x => exact absurd rfl (hc x)
  | _ => simp

theorem Acts.supplyLowCount {s t : State} {c : Instr} (h : Acts s c t) (hc : isReset c = false) :
    t.ctl.supplyLowCount = s.ctl.supplyLowCount := by
  cases h with
  | powerOn => cases hc
  | supplyLow => cases hc
  | resetLine => cases hc
  | linkRestart => cases hc
  | _ => simp

theorem Acts.resetCause {s t : State} {c : Instr} (h : Acts s c t) (hc : isReset c = false) :
    t.ctl.resetCause = s.ctl.resetCause ∨
      ∃ kind cause, s.ctl.station = .inReset kind ∧ c = .resetCauseEnd cause ∧ t.ctl.station = .start ∧
        t.ctl.resetCause = kind := by
  cases h with
  | powerOn => cases hc
  | supplyLow => cases hc
  | resetLine => cases hc
  | linkRestart => cases hc
  | resetCauseEnd cause =>
    rcases leaveReset_cases (endCause cause s) with hkeep | ⟨kind, hkind, hstart⟩
    · simp [hkeep]
    · exact .inr ⟨kind, cause, by simpa using hkind, rfl, by rw [hstart]; rfl, by rw [hstart]; rfl⟩
  | _ => simp

theorem Acts.findings {s t : State} {c : Instr} (h : Acts s c t) (hc : isReset c = false) :
    t.ctl.findings = s.ctl.findings ∨
      (s.ctl.station = .selftest ∧ (t.ctl.station = .settling ∨ t.ctl.station = .run) ∧
        ((c = .selftestWaitExpiry ∧ t.ctl.findings = ⟨true, s.cal.failed⟩) ∨
          (∃ v0 v1 v2 v3 tags check, c = .sampleSet v0 v1 v2 v3 tags check ∧
            t.ctl.findings = ⟨false, s.cal.failed⟩))) := by
  cases h with
  | powerOn => cases hc
  | supplyLow => cases hc
  | resetLine => cases hc
  | linkRestart => cases hc
  | selftestWaitExpiry hs =>
    exact .inr ⟨hs, (endEvent_endSelftest_station ..).imp_right And.left, .inl ⟨rfl, by simp⟩⟩
  | @goodSet v0 v1 v2 v3 tags check u hout hpass =>
    by_cases hs : s.ctl.station = .selftest
    · rw [firstGoodSet_of_selftest (takeSet_selftest (by simpa using hs))]
      exact .inr ⟨hs, (endEvent_endSelftest_station ..).imp_right And.left,
        .inr ⟨v0, v1, v2, v3, tags, check, rfl, by simp⟩⟩
    · rw [firstGoodSet_of_other (takeSet_not_selftest (by simpa using hs))]
      simp
  | _ => simp

/-- Settles O10: each act leaves the values of START as they are, but for the few that record them. -/
theorem startValuesStayFixed : Obligations.StartValuesStayFixed := by
  unfold Obligations.StartValuesStayFixed
  intro c s t h
  rcases exec_next_acts h with rfl | hacts
  · exact ⟨fun _ => ⟨rfl, rfl⟩, fun _ => ⟨rfl, .inl rfl, .inl rfl⟩⟩
  · exact ⟨hacts.straps, fun hc => ⟨hacts.supplyLowCount hc, hacts.resetCause hc, hacts.findings hc⟩⟩

end Sys2Proof.Machine

namespace Sys2Proof.Machine

open Sys2Proof

/-! What a command can do to the calibration memory, said once (chapter 9): the rules that keep the lock, the stored tables
and the settings rest on it. -/

/-- The calibration memory with a write or cut of table `k` begun (R154, R160). -/
def begunCal (k : Nat) (change : Change) (source : Byte) (s : State) : CalMemory :=
  { s.cal with
    tables := s.cal.tables.set k { storedTable s.cal k with openMark := true }
    activity := .writing k change source s.tick }

/-- The entry that a change carries passed the field test of its table (test 7 of R161). -/
def changeOk (k : Nat) : Change → Prop
  | .entry _ bytes => entryOk k bytes = true
  | .cut _ => True

/-- The ways in which a command leaves the calibration memory of station `s`. -/
inductive CalActs (s : State) : Instr → CalMemory → Prop
  | keeps (c : Instr) : CalActs s c s.cal
  | resets {c : Instr} (hc : isReset c = true) : CalActs s c (resetCal s.cal)
  | starts (x : Straps) : CalActs s (.startDone x) (startedCal s.cal)
  | completes (c : Instr) {k : Nat} {change : Change} {source : Byte} {begun : Tick}
      (ha : s.cal.activity = .writing k change source begun) : CalActs s c (completedCal k change s.cal)
  | erases {source : Byte} {begun : Tick} (ha : s.cal.activity = .erasing source begun) :
      CalActs s .eraseComplete (erased s.cal)
  | locks (ha : s.cal.activity = .idle) : CalActs s .lock { s.cal with lock := true }
  | beginsErase (ha : s.cal.activity = .idle) (source : Byte) :
      CalActs s .erase { s.cal with eraseMarker := true, activity := .erasing source s.tick }
  | beginsChange (c : Instr) {k : Nat} {change : Change} (hk : k < 13) (hlock : s.cal.lock = false)
      (ha : s.cal.activity = .idle) (hok : changeOk k change) (source : Byte) :
      CalActs s c (begunCal k change source s)

/-- The tests that a write or cut has passed when none of R161 refuses it. -/
theorem changeRefusal_none {s : State} {k : Nat} {a b c : Bool} (h : changeRefusal s k a b c = none) :
    k < 13 ∧ s.cal.lock = false ∧ s.straps.calEnable = true ∧ calBusy s = false ∧ a = true ∧ b = true ∧ c = true := by
  unfold changeRefusal at h
  split_ifs at h with h1 h2 h3 h4 h5 h6 h7 h8
  simp only [Bool.not_eq_true, Bool.not_eq_false] at h3 h4 h5 h6 h7 h8
  exact ⟨by omega, h3, h4, h5, h6, h7, h8⟩

theorem idle_of_not_calBusy {s : State} (h : calBusy s = false) : s.cal.activity = .idle := by
  simp only [calBusy, Bool.or_eq_false_iff, decide_eq_false_iff_not, not_not] at h
  exact h.1

theorem takeTableWrite_calActs (c : Instr) (f : RxFrame) (s : State) : CalActs s c (takeTableWrite f s).cal := by
  unfold takeTableWrite refuseTable
  split
  · split
    · unfold tableWrite
      split
      · simpa using .keeps c
      · next hnone =>
        obtain ⟨hk, hlock, -, hbusy, -, hok, -⟩ := changeRefusal_none hnone
        exact .beginsChange c (change := .entry _ _) hk hlock (idle_of_not_calBusy hbusy) hok f.source
    · exact .keeps c
  · simpa using .keeps c

theorem takeTableCut_calActs (c : Instr) (f : RxFrame) (s : State) : CalActs s c (takeTableCut f s).cal := by
  unfold takeTableCut refuseTable
  split
  · split
    · unfold tableCut
      split
      · simpa using .keeps c
      · next hnone =>
        obtain ⟨hk, hlock, -, hbusy, -, -, -⟩ := changeRefusal_none hnone
        exact .beginsChange c (change := .cut _) hk hlock (idle_of_not_calBusy hbusy) trivial f.source
    · exact .keeps c
  · simpa using .keeps c

theorem takeLock_calActs (f : RxFrame) (s : State) : CalActs s .lock (takeLock f s).cal := by
  unfold takeLock
  split_ifs with h1 h2 h3 h4
  · simpa using .keeps _
  · simpa using .keeps _
  · simpa using .keeps _
  · simpa using .keeps _
  · simpa using .locks (idle_of_not_calBusy (Bool.not_eq_true _ ▸ h2))

theorem takeErase_calActs (f : RxFrame) (s : State) : CalActs s .erase (takeErase f s).cal := by
  unfold takeErase
  split_ifs with h1 h2
  · simpa using .keeps _
  · simpa using .keeps _
  · exact .beginsErase (idle_of_not_calBusy (Bool.not_eq_true _ ▸ h2)) f.source

/-- A command to the memory without a table id does what its effect does, or nothing to the memory. -/
theorem memoryCommand_calActs {c : Instr} {effect : RxFrame → State → State} {f : RxFrame} {s : State}
    (heffect : CalActs s c (effect f s).cal) : CalActs s c (memoryCommand effect f s).cal := by
  unfold memoryCommand refuseField
  split_ifs
  · simpa using .keeps c
  · exact heffect
  · exact .keeps c

theorem CalActs.of_taken {rest : List RxFrame} {s : State} {c : Instr} {m : CalMemory}
    (h : CalActs (taken rest s) c m) : CalActs s c m := by
  cases h with
  | keeps => exact .keeps c
  | resets hc => exact .resets hc
  | starts x => exact .starts x
  | completes _ ha => exact .completes c ha
  | erases ha => exact .erases ha
  | locks ha => exact .locks ha
  | beginsErase ha source => exact .beginsErase (s := s) ha source
  | beginsChange _ hk hlock ha hok source => exact .beginsChange (s := s) c hk hlock ha hok source

@[simp] theorem completeChange_cal (kind : Byte) (k : Nat) (change : Change) (source : Byte) (s : State) :
    (completeChange kind k change source s).cal = completedCal k change s.cal := by
  simp [completeChange]

theorem Acts.calActs {s t : State} {c : Instr} (h : Acts s c t) : CalActs s c t.cal := by
  cases h with
  | powerOn => exact .resets rfl
  | supplyLow => exact .resets rfl
  | resetLine => exact .resets rfl
  | linkRestart => exact .resets rfl
  | startDone x => exact .starts x
  | tableWrite => exact (takeTableWrite_calActs _ _ _).of_taken
  | tableCut => exact (takeTableCut_calActs _ _ _).of_taken
  | lock => exact (memoryCommand_calActs (takeLock_calActs _ _)).of_taken
  | erase => exact (memoryCommand_calActs (takeErase_calActs _ _)).of_taken
  | writeComplete ha => simpa using .completes _ ha
  | cutComplete ha => simpa using .completes _ ha
  | eraseComplete ha => simpa using .erases ha
  | _ => simpa using .keeps _

/-! ### The lock (R165, R166) -/

theorem startedCal_of_marker {c : CalMemory} (h : c.eraseMarker = true) :
    (startedCal c).tables = List.replicate 13 .blank ∧ (startedCal c).lock = false := by
  simp [startedCal, h, erased]

theorem startedCal_of_no_marker {c : CalMemory} (h : c.eraseMarker = false) :
    (startedCal c).tables = c.tables ∧ (startedCal c).lock = c.lock := by
  simp [startedCal, h]

@[simp] theorem startedCal_idle (c : CalMemory) :
    (startedCal c).activity = .idle ∧ (startedCal c).eraseMarker = false := by
  refine ⟨rfl, ?_⟩
  cases h : c.eraseMarker <;> simp [startedCal, h, erased]

theorem notWriting_of_idle {c : CalMemory} (h : c.activity = .idle) : notWriting c = true := by
  simp [notWriting, h]

/-- Settles O9, by the ways in which a command leaves the calibration memory. -/
theorem lockFreezesTablesUntilErase : Obligations.LockFreezesTablesUntilErase := by
  unfold Obligations.LockFreezesTablesUntilErase
  intro c s t h hlock
  have hcal : CalActs s c t.cal := by
    rcases exec_next_acts h with rfl | hacts
    · exact .keeps c
    · exact hacts.calActs
  generalize t.cal = m at hcal
  cases hcal with
  | keeps => simp [hlock]
  | resets => simp [resetCal, hlock, notWriting]
  | starts x =>
    cases hm : s.cal.eraseMarker with
    | true => simp [startedCal_of_marker hm]
    | false => simp [startedCal_of_no_marker hm, hlock, notWriting]
  | completes _ ha => simp [completedCal, hlock, notWriting, ha]
  | erases ha => simp [erased, ha]
  | locks ha => simp [notWriting, ha]
  | beginsErase ha source => simp [hlock, notWriting]
  | beginsChange _ _ hfree => simp [hlock] at hfree

end Sys2Proof.Machine

namespace Sys2Proof.Machine

open Sys2Proof

/-! The settings in use stay valid (R155), and with them the effective temperature stays in range (R50). -/

/-! ### Numbers in bytes -/

theorem foldl_bytes_lt (l : List Byte) : ∀ a n : Nat, a < 256 ^ n →
    l.foldl (fun a b => 256 * a + b.toNat) a < 256 ^ (n + l.length) := by
  induction l with
  | nil => intro a n h; simpa using h
  | cons b l ih =>
    intro a n h
    have hb := b.isLt
    have hstep : 256 * a + b.toNat < 256 ^ (n + 1) := by rw [pow_succ]; omega
    have := ih (256 * a + b.toNat) (n + 1) hstep
    rwa [Nat.add_right_comm, Nat.add_assoc] at this

theorem numAt_lt (p : List Byte) (i n : Nat) : numAt p i n < 256 ^ n := by
  have h := foldl_bytes_lt ((p.drop i).take n) 0 0 (by simp)
  rw [Nat.zero_add] at h
  exact h.trans_le (Nat.pow_le_pow_right (by omega) (by simp))

/-! ### The settings (R155) -/

theorem settingsInRange_builtIn : settingsInRange .builtIn = true := by decide

/-- A SETUP record that passes its tests gives settings in their ranges. -/
theorem settingsInRange_setupOf {e : List Byte} (h : setupOk e = true) : settingsInRange (setupOf e) = true := by
  have hinterval : (setupOf e).interval ≤ 255 := Nat.le_of_lt_succ (numAt_lt e 18 1)
  have hclear : (setupOf e).clearCount ≤ 255 := Nat.le_of_lt_succ (numAt_lt e 19 1)
  simp only [setupOk, settingsInRange, Bool.and_eq_true, inRange_iff] at h ⊢
  simp_all

theorem mem_changedEntries {entries : List (List Byte)} {change : Change} {e : List Byte}
    (h : e ∈ changedEntries entries change) : e ∈ entries ∨ ∃ index, change = .entry index e := by
  cases change with
  | cut count => exact .inl (List.mem_of_mem_take h)
  | entry index bytes =>
    simp only [changedEntries] at h
    split at h
    · exact (List.mem_or_eq_of_mem_set h).imp_right fun heq => ⟨index, by rw [heq]⟩
    · simpa [eq_comm] using h

theorem storedTable_set (c : CalMemory) (k j : Nat) (x : Stored) :
    storedTable { c with tables := c.tables.set k x } j =
      if k = j ∧ j < c.tables.length then x else storedTable c j := by
  simp only [storedTable, List.getD_eq_getElem?_getD, List.getElem?_set]
  grind

theorem mem_of_mem_tableEntries {c : CalMemory} {k : Nat} {e : List Byte} (h : e ∈ tableEntries c k) :
    e ∈ (storedTable c k).entries := by
  unfold tableEntries at h
  split at h
  · exact h
  · simp at h

/-- The SETUP records stored and being written pass their tests. -/
def RecordsValid (c : CalMemory) : Prop :=
  (∀ e ∈ (storedTable c 0).entries, setupOk e = true) ∧ setupWriteOk c = true

theorem recordsValid_of_idle {c d : CalMemory} (h : RecordsValid c) (ht : d.tables = c.tables)
    (ha : d.activity = .idle) : RecordsValid d :=
  ⟨by simpa [storedTable, ht] using h.1, by simp [setupWriteOk, ha]⟩

theorem recordsValid_of_blank {d : CalMemory} (ht : d.tables = List.replicate 13 .blank)
    (ha : d.activity = .idle) : RecordsValid d :=
  ⟨by simp [storedTable, ht, Stored.blank], by simp [setupWriteOk, ha]⟩

theorem RecordsValid.calActs {s : State} {c : Instr} {m : CalMemory} (h : RecordsValid s.cal) (hm : CalActs s c m) :
    RecordsValid m := by
  cases hm with
  | keeps => exact h
  | resets => exact recordsValid_of_idle h rfl rfl
  | starts =>
    cases hmark : s.cal.eraseMarker with
    | true => exact recordsValid_of_blank (startedCal_of_marker hmark).1 rfl
    | false => exact recordsValid_of_idle h (startedCal_of_no_marker hmark).1 rfl
  | @completes _ k change source begun ha =>
    refine ⟨fun e he => ?_, rfl⟩
    change e ∈ (storedTable { s.cal with tables := s.cal.tables.set k _ } 0).entries at he
    rw [storedTable_set] at he
    split at he
    · next hk =>
      rcases mem_changedEntries he with hold | ⟨index, rfl⟩
      · exact h.1 e (hk.1 ▸ mem_of_mem_tableEntries hold)
      · simpa [setupWriteOk, ha, hk.1] using h.2
    · exact h.1 e he
  | erases => exact recordsValid_of_blank rfl rfl
  | locks ha => exact recordsValid_of_idle h rfl ha
  | beginsErase => exact ⟨h.1, rfl⟩
  | @beginsChange _ k change _ _ _ hok source =>
    refine ⟨fun e he => ?_, ?_⟩
    · change e ∈ (storedTable { s.cal with tables := s.cal.tables.set k _ } 0).entries at he
      rw [storedTable_set] at he
      split at he
      · next hk => exact h.1 e (hk.1 ▸ he)
      · exact h.1 e he
    · cases change with
      | cut count => rfl
      | entry index bytes =>
        by_cases hk : k = 0
        · subst hk
          simp only [changeOk, entryOk, if_true, Bool.and_eq_true] at hok
          simp [begunCal, setupWriteOk, hok.2]
        · simp [begunCal, setupWriteOk, hk]

/-- The settings that START loads from valid records are in range. -/
theorem settingsInRange_loadedSetup {c : CalMemory} (h : RecordsValid c) : settingsInRange (loadedSetup c) = true := by
  unfold loadedSetup
  split
  · next e rest he => exact settingsInRange_setupOf (h.1 e (mem_of_mem_tableEntries (he ▸ List.mem_cons_self)))
  · exact settingsInRange_builtIn

theorem settingsValid_iff {s : State} : SettingsValid s ↔ settingsInRange s.setup = true ∧ RecordsValid s.cal := Iff.rfl

/-- R155: every act keeps the settings and the SETUP records valid. -/
theorem SettingsValid.acts {s t : State} {c : Instr} (h : SettingsValid s) (hacts : Acts s c t) : SettingsValid t := by
  obtain ⟨hsetup, hrec⟩ := settingsValid_iff.1 h
  have hcal := hrec.calActs hacts.calActs
  refine settingsValid_iff.2 ⟨?_, hcal⟩
  by_cases hc : ∀ x, c ≠ .startDone x
  · rw [(hacts.straps hc).2]; exact hsetup
  · push Not at hc
    obtain ⟨x, rfl⟩ := hc
    cases hacts
    exact settingsInRange_loadedSetup hcal

/-! ### The mean of temperatures in range (R45, R50) -/

theorem sum_bounds {l : List Int} {lo hi : Int} (h : ∀ v ∈ l, lo ≤ v ∧ v ≤ hi) :
    lo * l.length ≤ l.sum ∧ l.sum ≤ hi * l.length := by
  induction l with
  | nil => simp
  | cons v l ih =>
    obtain ⟨hv, hl⟩ := List.forall_mem_cons.1 h
    obtain ⟨hlow, hhigh⟩ := ih hl
    rw [List.length_cons, List.sum_cons]
    push_cast
    constructor <;> linarith

theorem roundHalfUp_le {n d k : Nat} (hd : 0 < d) (h : n ≤ k * d) : roundHalfUp n d ≤ k :=
  Nat.lt_succ_iff.1 ((roundHalfUp_lt_iff hd).2 (by rw [Nat.mul_left_comm, Nat.succ_eq_add_one, Nat.add_mul]; omega))

theorem tempInRange_meanInt {l : List Int} (hne : l ≠ []) (h : ∀ v ∈ l, tempInRange v = true) :
    tempInRange (meanInt l) = true := by
  have hlen : 0 < l.length := List.length_pos_iff.2 hne
  obtain ⟨hlow, hhigh⟩ := sum_bounds fun v hv => (tempInRange_iff v).1 (h v hv)
  rw [tempInRange_iff, meanInt, roundAway]
  split
  · next hneg =>
    have := roundHalfUp_le (n := l.sum.natAbs) (k := 400) hlen (by omega)
    omega
  · next hneg =>
    have := roundHalfUp_le (n := l.sum.natAbs) (k := 800) hlen (by omega)
    omega

/-! ### The temperature unit (R43 to R53) -/

/-- The effective temperature and everything in the temperature unit that it can be chosen from lie in −400..+800. -/
def UnitInRange (u : TempUnit) : Prop :=
  tempInRange u.value = true ∧ (∀ v ∈ u.held, tempInRange v = true) ∧
  (∀ v ∈ u.probes.p0.ring, tempInRange v = true) ∧ (∀ v ∈ u.probes.p1.ring, tempInRange v = true)

theorem tempsInRange_iff {s : State} : TempsInRange s ↔ SettingsValid s ∧ UnitInRange s.temp := Iff.rfl

/-- The values in a probe's ring lie in range. -/
def RingInRange (p : Probe) : Prop := ∀ v ∈ p.ring, tempInRange v = true

theorem unitInRange_iff {u : TempUnit} :
    UnitInRange u ↔ tempInRange u.value = true ∧ (∀ v ∈ u.held, tempInRange v = true) ∧
      ∀ i, RingInRange (u.probes.get i) :=
  ⟨fun ⟨hv, hh, h0, h1⟩ => ⟨hv, hh, fun i => by cases i <;> assumption⟩,
    fun ⟨hv, hh, hr⟩ => ⟨hv, hh, hr .p0, hr .p1⟩⟩

@[simp] theorem perProbe_get_set {α : Type} (q : PerProbe α) (i j : ProbeIx) (x : α) :
    (q.set i x).get j = if j = i then x else q.get j := by
  cases i <;> cases j <;> rfl

theorem RingInRange.filtered {p : Probe} (h : RingInRange p) {v : Int} (hv : filtered p = some v) :
    tempInRange v = true := by
  unfold Machine.filtered at hv
  split at hv
  · cases hv
  · next hne =>
    obtain rfl := Option.some.inj hv
    exact tempInRange_meanInt (by simpa using hne) h

theorem RingInRange.validValue {p : Probe} (h : RingInRange p) {v : Int} (hv : validValue p = some v) :
    tempInRange v = true := by
  unfold Machine.validValue at hv
  split at hv
  · exact h.filtered hv
  · cases hv

theorem RingInRange.goodReading {p : Probe} (h : RingInRange p) (u : Tick) {v : Int} (hv : tempInRange v = true) :
    RingInRange (goodReading u v p) := by
  have hring : (Machine.goodReading u v p).ring = pushRing p.ring v := by
    unfold Machine.goodReading
    dsimp only
    (repeat' split) <;> rfl
  intro w hw
  rw [hring, pushRing, pushBounded] at hw
  split at hw
  · rcases List.mem_append.1 hw with hold | hnew
    · exact h w hold
    · rwa [List.mem_singleton.1 hnew]
  · rcases List.mem_append.1 hw with hold | hnew
    · exact h w (List.mem_of_mem_drop hold)
    · rwa [List.mem_singleton.1 hnew]

theorem RingInRange.badReading {p : Probe} (h : RingInRange p) : RingInRange (badReading p) := by
  have hring : (Machine.badReading p).ring = p.ring ∨ (Machine.badReading p).ring = [] := by
    unfold Machine.badReading
    dsimp only
    (repeat' split) <;> simp
  rcases hring with hkeep | hempty
  · rwa [RingInRange, hkeep]
  · simp [RingInRange, hempty]

/-- A live choice lies in range: it is the mean of a ring, or of the temperatures of fresh peers (R50, R51). -/
theorem liveChoice_inRange {s : State} (h : UnitInRange s.temp) {v : Int} {x : Source} {e : Option Tick}
    (hc : liveChoice s = some (v, x, e)) : tempInRange v = true := by
  obtain ⟨-, -, hrings⟩ := unitInRange_iff.1 h
  unfold liveChoice at hc
  split at hc
  · next w hw =>
    obtain ⟨i, -, hi⟩ := Option.bind_eq_some_iff.1 hw
    cases hc
    exact (hrings i).validValue hi
  · split at hc
    · next w hw =>
      obtain ⟨i, -, hi⟩ := Option.bind_eq_some_iff.1 hw
      cases hc
      exact (hrings (otherProbe i)).validValue hi
    · dsimp only at hc
      split at hc
      · cases hc
      · next hne =>
        cases hc
        refine tempInRange_meanInt (by simpa using hne) fun w hw => ?_
        obtain ⟨p, hp, rfl⟩ := List.mem_map.1 hw
        have hfresh := (List.mem_filter.1 hp).2
        simp only [isFresh, Bool.and_eq_true] at hfresh
        exact hfresh.2

/-- A re-choice keeps the temperature unit in range (R50, R53). -/
theorem UnitInRange.rechoose {s : State} (h : UnitInRange s.temp) (hd : tempInRange s.setup.defaultTemp = true) :
    UnitInRange (rechoose s).temp := by
  have ⟨_, hheld, h0, h1⟩ := h
  change UnitInRange (choose s.temp (liveChoice s) s.tick s.setup.defaultTemp)
  unfold choose
  split
  · next v x e hc =>
    have hv := liveChoice_inRange h hc
    exact ⟨hv, by simpa using hv, h0, h1⟩
  · split
    · next w hw => exact ⟨hheld w (by simp [hw]), hheld, h0, h1⟩
    · exact ⟨hd, hheld, h0, h1⟩

theorem UnitInRange.changeProbe {i : ProbeIx} {g : Probe → Probe} {s : State} (h : UnitInRange s.temp)
    (hg : RingInRange (s.temp.probes.get i) → RingInRange (g (s.temp.probes.get i))) :
    UnitInRange (changeProbe i g s).temp := by
  obtain ⟨hv, hheld, hrings⟩ := unitInRange_iff.1 h
  refine unitInRange_iff.2 ⟨hv, hheld, fun j => ?_⟩
  change RingInRange ((s.temp.probes.set i (g (s.temp.probes.get i))).get j)
  rw [perProbe_get_set]
  split
  · exact hg (hrings i)
  · exact hrings j

/-- What the reports change of the temperature unit is the figures since the last report alone (R56). -/
@[simp] theorem formBeacon_choice (s : State) :
    (formBeacon s).temp.value = s.temp.value ∧ (formBeacon s).temp.held = s.temp.held ∧
    (formBeacon s).temp.probes = s.temp.probes ∧ (formBeacon s).temp.source = s.temp.source := by
  unfold formBeacon laneClearStep scheduledReport offerTemperature resetFigures
  dsimp only
  (repeat' split) <;> simp

@[simp] theorem endSelftest_choice (silent : Bool) (s : State) :
    (endSelftest silent s).temp.value = s.temp.value ∧ (endSelftest silent s).temp.held = s.temp.held ∧
    (endSelftest silent s).temp.probes = s.temp.probes ∧ (endSelftest silent s).temp.source = s.temp.source := by
  simp [endSelftest]

@[simp] theorem firstGoodSet_choice (s : State) :
    (firstGoodSet s).temp.value = s.temp.value ∧ (firstGoodSet s).temp.held = s.temp.held ∧
    (firstGoodSet s).temp.probes = s.temp.probes ∧ (firstGoodSet s).temp.source = s.temp.source := by
  unfold firstGoodSet
  split <;> simp

@[simp] theorem tempRequest_choice (f : RxFrame) (s : State) :
    (plainCommand offerTemperature f s).temp.value = s.temp.value ∧
    (plainCommand offerTemperature f s).temp.held = s.temp.held ∧
    (plainCommand offerTemperature f s).temp.probes = s.temp.probes ∧
    (plainCommand offerTemperature f s).temp.source = s.temp.source := by
  unfold plainCommand refuseField offerTemperature resetFigures
  dsimp only
  (repeat' split) <;> simp

/-- A unit whose value, held value and probes are those of a unit in range is in range. -/
theorem UnitInRange.of_choice {u w : TempUnit} (h : UnitInRange u) (hv : w.value = u.value) (hheld : w.held = u.held)
    (hp : w.probes = u.probes) : UnitInRange w := by
  rw [UnitInRange, hv, hheld, hp]; exact h

theorem unitInRange_reset : UnitInRange .reset := ⟨by decide, by simp [TempUnit.reset], by decide, by decide⟩

theorem UnitInRange.takeReading {i : ProbeIx} {ok : Bool} {v : Int} {s : State} (h : UnitInRange s.temp)
    (hd : tempInRange s.setup.defaultTemp = true) : UnitInRange (takeReading i ok v s).temp := by
  unfold Machine.takeReading
  split
  · exact (h.changeProbe RingInRange.badReading).rechoose hd
  · next hgood =>
    have hv : tempInRange v = true := by
      simp only [readingBad, Bool.or_eq_true, not_or, Bool.not_eq_true, Bool.not_eq_false'] at hgood
      exact hgood.1.2
    exact UnitInRange.rechoose (s := countReading _) (h.changeProbe fun hr => hr.goodReading s.tick hv) hd

theorem unitInRange_startTemp {u : Setup} (hd : tempInRange u.defaultTemp = true) : UnitInRange (startTemp u) := by
  have hring : ∀ b, (startProbe b).ring = [] := fun b => by cases b <;> rfl
  exact ⟨hd, by simp [startTemp, TempUnit.reset], by simp [startTemp, hring], by simp [startTemp, hring]⟩

/-- Every act keeps the temperature unit in range, with the settings that it leaves (R50). -/
theorem UnitInRange.acts {s t : State} {c : Instr} (h : UnitInRange s.temp)
    (hd : tempInRange s.setup.defaultTemp = true) (hd' : tempInRange t.setup.defaultTemp = true) (hacts : Acts s c t) :
    UnitInRange t.temp := by
  cases hacts with
  | powerOn => exact unitInRange_reset
  | supplyLow => exact unitInRange_reset
  | resetLine => exact unitInRange_reset
  | linkRestart => exact unitInRange_reset
  | startDone x => exact unitInRange_startTemp hd'
  | probeReading => exact h.takeReading hd
  | stalenessExpiry => exact (h.changeProbe (g := fun p => { p with state := .stale }) id).rechoose hd
  | freshnessExpiry => exact h.rechoose hd
  | heldTimerExpiry =>
    refine UnitInRange.rechoose ⟨h.1, by simp, h.2.2⟩ hd
  | beaconReceived => exact UnitInRange.rechoose (by simpa using h) (by simpa using hd)
  | _ => exact h.of_choice (by simp) (by simp) (by simp)

theorem tempInRange_default {u : Setup} (h : settingsInRange u = true) : tempInRange u.defaultTemp = true := by
  simp only [settingsInRange, Bool.and_eq_true] at h
  exact h.1.1.2

/-- Settles O5: a step idles or is an act, and every act keeps the settings and the temperature unit in range. -/
theorem temperatureStaysInRange : Obligations.TemperatureStaysInRange := by
  unfold Obligations.TemperatureStaysInRange
  intro s t h hstep
  rcases step_exec hstep with rfl | ⟨c, rest, hexec⟩
  · exact h
  · rcases exec_next_acts hexec with rfl | hacts
    · exact h
    · obtain ⟨hset, hunit⟩ := tempsInRange_iff.1 h
      have hset' : SettingsValid t := SettingsValid.acts (s := s.withPending rest) hset hacts
      exact tempsInRange_iff.2 ⟨hset', UnitInRange.acts (s := s.withPending rest) hunit (tempInRange_default hset.1)
        (tempInRange_default hset'.1) hacts⟩

end Sys2Proof.Machine

namespace Sys2Proof.Machine

open Sys2Proof

/-! The ranges of chapter 1 for a detector: every sample, REZERO and SAMPLE_PORT_SILENT keep them. -/

/-! ### The baseline (R6, R9) -/

/-- The range of a baseline b16: sixteen times that of a sample. -/
def BaseInRange (b : Int) : Prop := -524288 ≤ b ∧ b ≤ 524272

/-- The values a sample can carry: those of a signed 16-bit number. -/
def SampleInRange : Sample → Prop
  | .good v _ => -32768 ≤ v ∧ v ≤ 32767
  | .missing => True

theorem BaseInRange.track {b v : Int} (hb : BaseInRange b) (hv : -32768 ≤ v ∧ v ≤ 32767) : BaseInRange (track b v) := by
  obtain ⟨hlow, hhigh⟩ := hb
  unfold BaseInRange Machine.track
  rcases le_total 0 (16 * v - b) with hpos | hneg
  · rw [Int.tdiv_eq_ediv_of_nonneg hpos]; omega
  · have hneg' : (16 * v - b).tdiv 64 = -((b - 16 * v) / 64) := by
      rw [← Int.tdiv_eq_ediv_of_nonneg (by omega), ← Int.neg_tdiv]; congr 1; omega
    rw [hneg']; omega

/-- A corrected sample is far below the greatest area. -/
theorem corrected_le {b v : Int} (hb : BaseInRange b) (hv : -32768 ≤ v ∧ v ≤ 32767) : corrected b v ≤ 65536 := by
  obtain ⟨hlow, hhigh⟩ := hb
  unfold corrected roundAway
  split
  · have := roundHalfUp_le (n := b.natAbs) (d := 16) (k := 32768) (by omega) (by omega)
    omega
  · omega

/-! ### A detector (R7 to R19) -/

/-- The parts of a setting that a detector's range rests on (R155). -/
def ThresholdsOk (u : Setup) : Prop := 16 ≤ u.tOn ∧ 8 ≤ u.tOff

theorem thresholdsOk_of_settings {u : Setup} (h : settingsInRange u = true) : ThresholdsOk u := by
  simp only [settingsInRange, Bool.and_eq_true, inRange_iff] at h
  exact ⟨by omega, by omega⟩

theorem detectorInRange_enterAcquiring {d : Detector} (hgood : d.good ≤ 64) {missing : Nat} (hmiss : missing < 8) :
    DetectorInRange (enterAcquiring missing d) := by
  simp [enterAcquiring, DetectorInRange, settleTarget, missingLimit, recoveryTarget, areaInRange, hmiss, hgood]

/-- A detector in range stays so when it enters FAULT (R10, R12). -/
theorem DetectorInRange.fault {d e : Detector} (h : DetectorInRange d) (hs : e.state = .fault) (hb : e.base = d.base)
    (hset : e.settle ≤ 2000) (hmiss : e.missing < 8) (hgood : e.good = 0) : DetectorInRange e := by
  obtain ⟨hbase, -, -, -, -, -, -, -⟩ := h
  exact ⟨by simpa [hb] using hbase, by simp [hs], hset, by simp [hs], hmiss, by simp [hgood],
    by simp [hgood, recoveryTarget], by simp [hs, areaInRange]⟩

/-- A detector in range stays so when it keeps its base and counts, with fewer missing samples, in READY or in a pulse. -/
theorem DetectorInRange.seeded {d e : Detector} (h : DetectorInRange d) (hd : d.state ≠ .acquiring)
    (hd' : d.state ≠ .fault) (hs : e.state ≠ .acquiring) (hs' : e.state ≠ .fault)
    (hb : e.base = d.base) (hset : e.settle = d.settle) (hmiss : e.missing < 8) (hgood : e.good = d.good)
    (harea : areaInRange e.state = true) : DetectorInRange e := by
  obtain ⟨hbase, hseed, hsettle, -, -, hg, -, -⟩ := h
  exact ⟨by simpa [hb] using hbase, fun _ => .inl (by simpa [hb, hd'] using hseed hd), by rw [hset]; exact hsettle,
    fun ha => absurd ha hs, hmiss, by rw [hgood]; exact hg, fun hf => absurd hf hs', harea⟩

theorem DetectorInRange.goodAcquiring {u : Setup} {v : Int} {clip : Bool} {d : Detector} (h : DetectorInRange d)
    (hs : d.state = .acquiring) (hv : -32768 ≤ v ∧ v ≤ 32767) : DetectorInRange (goodAcquiring u v clip d) := by
  obtain ⟨hbase, -, -, hacq, hmiss, hgood, -, -⟩ := id h
  have hlt : d.settle < 2000 := hacq hs
  unfold Machine.goodAcquiring
  split
  · split
    · exact h
    · exact ⟨by simp; omega, by simp [hs], by simp [settleTarget], by simp [settleTarget], hmiss, hgood, by simp [hs],
        by simp [hs, areaInRange]⟩
  · next b hsome =>
    split
    · exact ⟨hbase, by simp [hs], by simp, by simp [settleTarget], hmiss, hgood, by simp [hs], by simp [hs, areaInRange]⟩
    · have htrack : BaseInRange (track b v) := BaseInRange.track (hbase b hsome) hv
      refine ⟨by simpa [BaseInRange] using htrack, by simp, Nat.succ_le_of_lt hlt, fun ha => ?_, hmiss, hgood, ?_, ?_⟩
      · by_contra hge
        simp [not_lt.1 hge] at ha
      · dsimp only
        split <;> simp
      · dsimp only
        split <;> rfl

theorem DetectorInRange.goodReady {u : Setup} {now : Tick} {v : Int} {clip : Bool} {d : Detector}
    (hu : ThresholdsOk u) (h : DetectorInRange d) (hs : d.state = .ready) (hv : -32768 ≤ v ∧ v ≤ 32767) :
    DetectorInRange (goodReady u now v clip d) := by
  obtain ⟨hbase, hseed, hsettle, -, hmiss, hgood, -, -⟩ := id h
  obtain ⟨b, hb⟩ := Option.isSome_iff_exists.1 ((hseed (by simp [hs])).resolve_right (by simp [hs]))
  have hbr : BaseInRange b := hbase b hb
  unfold Machine.goodReady
  dsimp only
  rw [hb, Option.getD_some]
  split
  · next hon =>
    have hle := corrected_le hbr hv
    have h16 := hu.1
    refine h.seeded (by simp [hs]) (by simp [hs]) (by simp) (by simp) hb.symm rfl hmiss rfl ?_
    simp only [areaInRange, startPulse, inRange_iff, areaMax]
    omega
  · split
    · exact h
    · exact ⟨by simpa [BaseInRange] using hbr.track hv, by simp, hsettle, by simp [hs], hmiss, hgood, by simp [hs],
        by simp [hs, areaInRange]⟩

/-- The area after a sample at or above T_off (R14, R15). -/
theorem addArea_inRange {p : Pulse} {c : Int} (h : inRange 1 areaMax p.area = true) :
    inRange 1 areaMax (addArea p c).area = true := by
  simp only [inRange_iff, areaMax] at h ⊢
  unfold addArea
  dsimp only
  split_ifs with h1 h2 h3
  · exact h
  · simp [areaMax]
  · simp
  · simp only [areaMax] at h2
    dsimp only
    omega

theorem DetectorInRange.afterRelease {d : Detector} {p : Pulse} (h : DetectorInRange d) (hs : d.state = .inPulse p) :
    DetectorInRange (afterRelease d) := by
  obtain ⟨hbase, hseed, hsettle, -, hmiss, hgood, -, -⟩ := id h
  unfold Machine.afterRelease
  split
  · exact detectorInRange_enterAcquiring (d := d) hgood hmiss
  · exact h.seeded (by simp [hs]) (by simp [hs]) (by simp) (by simp) rfl rfl hmiss rfl rfl

theorem DetectorInRange.goodInPulse {u : Setup} {ch : Chan} {now : Tick} {v : Int} {clip : Bool} {p : Pulse}
    {d : Detector} (h : DetectorInRange d) (hs : d.state = .inPulse p) :
    DetectorInRange (goodInPulse u ch now v clip p d).1 := by
  obtain ⟨-, -, -, -, hmiss, -, -, harea⟩ := id h
  rw [hs, areaInRange] at harea
  unfold Machine.goodInPulse
  dsimp only
  split_ifs
  · exact h.seeded (by simp [hs]) (by simp [hs]) (by simp) (by simp) rfl rfl hmiss rfl (addArea_inRange harea)
  · exact h.afterRelease hs
  · exact h.seeded (by simp [hs]) (by simp [hs]) (by simp) (by simp) rfl rfl hmiss rfl harea

theorem DetectorInRange.goodFault {d : Detector} (h : DetectorInRange d) (hs : d.state = .fault) :
    DetectorInRange (goodFault d) := by
  obtain ⟨hbase, -, hsettle, -, hmiss, -, hgood, -⟩ := id h
  have hlt : d.good < 64 := hgood hs
  unfold Machine.goodFault
  split
  · exact detectorInRange_enterAcquiring (d := { d with good := d.good + 1 }) hlt (by omega)
  · next hno =>
    simp only [recoveryTarget] at hno
    exact ⟨hbase, by simp [hs], hsettle, by simp [hs], hmiss, by simp only [recoveryTarget]; omega,
      fun _ => by simp only [recoveryTarget]; omega, by simp [hs, areaInRange]⟩

theorem DetectorInRange.missingSample {ch : Chan} {d : Detector} (h : DetectorInRange d) :
    DetectorInRange (missingSample ch d).1 := by
  obtain ⟨hbase, hseed, hsettle, hacq, hmiss, hgood, hfault, harea⟩ := id h
  have hlimit : missingLimit = 8 := rfl
  unfold Machine.missingSample
  dsimp only
  split
  · next hs => exact ⟨hbase, by simp [hs], hsettle, by simp [hs], hmiss, by simp, by simp [recoveryTarget],
      by simp [hs, areaInRange]⟩
  · next hs =>
    have hlt : d.settle < 2000 := hacq hs
    split_ifs with hlast hsome hsome
    · exact h.fault rfl rfl (by simp [enterFault]) (by simp [enterFault]) rfl
    · exact h.fault rfl rfl hsettle (by simp [enterFault]) rfl
    · exact ⟨hbase, by simp [hs], by simp, by simp [settleTarget], by simp at hlast ⊢; omega, hgood, by simp [hs],
        by simp [hs, areaInRange]⟩
    · exact ⟨hbase, by simp [hs], hsettle, fun _ => hlt, by simp at hlast ⊢; omega, hgood, by simp [hs],
        by simp [hs, areaInRange]⟩
  · next hs =>
    split_ifs with hlast
    · exact h.fault rfl rfl hsettle (by simp [enterFault]) rfl
    · exact h.seeded (by simp [hs]) (by simp [hs]) (by simp [hs]) (by simp [hs]) rfl rfl
        (by simp at hlast ⊢; omega) rfl (by simp [hs, areaInRange])
  · next p hs =>
    split_ifs with hlast
    · exact h.fault rfl rfl hsettle (by simp [enterFault]) rfl
    · exact h.seeded (by simp [hs]) (by simp [hs]) (by simp) (by simp) rfl rfl
        (by simp at hlast ⊢; omega) rfl (by simpa [hs, areaInRange] using harea)

/-- A detector in range is so with its missing count cleared. -/
theorem DetectorInRange.clearMissing {d : Detector} (h : DetectorInRange d) : DetectorInRange { d with missing := 0 } := by
  obtain ⟨hbase, hseed, hsettle, hacq, -, hgood, hfault, harea⟩ := h
  exact ⟨hbase, hseed, hsettle, hacq, by simp [missingLimit], hgood, hfault, harea⟩

/-- Every sample keeps its detector in range (R7 to R18). -/
theorem DetectorInRange.takeSample {u : Setup} {ch : Chan} {now : Tick} {x : Sample} {d : Detector}
    (hu : ThresholdsOk u) (h : DetectorInRange d) (hx : SampleInRange x) :
    DetectorInRange (takeSample u ch now x d).1 := by
  unfold Machine.takeSample
  split
  · exact h.missingSample
  · next v clip =>
    split
    · next hs => exact h.clearMissing.goodAcquiring hs hx
    · next hs => exact h.clearMissing.goodReady hu hs hx
    · next p hs => exact h.clearMissing.goodInPulse hs
    · next hs => exact h.goodFault hs

theorem DetectorInRange.rezeroDetector {d : Detector} (h : DetectorInRange d) :
    DetectorInRange (rezeroDetector d) := by
  obtain ⟨hbase, hseed, hsettle, hacq, hmiss, hgood, hfault, harea⟩ := id h
  unfold Machine.rezeroDetector
  split
  · exact detectorInRange_enterAcquiring hgood hmiss
  · exact detectorInRange_enterAcquiring hgood hmiss
  · exact h
  · exact h

theorem DetectorInRange.silenceDetector {d : Detector} (h : DetectorInRange d) :
    DetectorInRange (silenceDetector d) := by
  obtain ⟨-, -, hsettle, -, hmiss, -, -, -⟩ := id h
  unfold Machine.silenceDetector
  split
  · exact h
  all_goals exact h.fault rfl rfl hsettle hmiss rfl

/-! ### The four detectors -/

/-- The four detectors lie in the ranges of chapter 1. -/
def QuadInRange (q : Quad Detector) : Prop :=
  DetectorInRange q.al ∧ DetectorInRange q.ar ∧ DetectorInRange q.bl ∧ DetectorInRange q.br

theorem quadInRange_reset : QuadInRange ⟨.reset, .reset, .reset, .reset⟩ := by
  have h : DetectorInRange .reset := detectorInRange_enterAcquiring (d := .reset) (missing := 0) (by decide) (by omega)
  exact ⟨h, h, h, h⟩

theorem sampleInRange_inputSample (v0 v1 v2 v3 : BitVec 16) (tags : Byte) (input : BitVec 2) :
    SampleInRange (inputSample v0 v1 v2 v3 tags input) := by
  have h := BitVec.le_toInt ([v0, v1, v2, v3].getD input.toNat 0)
  have h' := BitVec.toInt_lt (x := [v0, v1, v2, v3].getD input.toNat 0)
  simp only [SampleInRange, inputSample]
  omega

theorem QuadInRange.takeSet {u : Tick} {x : Quad Sample} {s : State} (hu : ThresholdsOk s.setup)
    (h : QuadInRange s.det) (hal : SampleInRange x.al) (har : SampleInRange x.ar) (hbl : SampleInRange x.bl)
    (hbr : SampleInRange x.br) : QuadInRange (takeSet u x s).det := by
  rw [takeSet_det]
  obtain ⟨hal', har', hbl', hbr'⟩ := h
  exact ⟨hal'.takeSample hu hal, har'.takeSample hu har, hbl'.takeSample hu hbl, hbr'.takeSample hu hbr⟩

theorem QuadInRange.missingSet {u : Tick} {s : State} (hu : ThresholdsOk s.setup) (h : QuadInRange s.det) :
    QuadInRange (Machine.takeSet u missingSet s).det :=
  h.takeSet hu trivial trivial trivial trivial

theorem QuadInRange.rezeroed {names : Byte} {q : Quad Detector} (h : QuadInRange q) :
    QuadInRange (rezeroed names q) := by
  obtain ⟨hal, har, hbl, hbr⟩ := h
  unfold Machine.rezeroed
  refine ⟨?_, ?_, ?_, ?_⟩ <;> dsimp only <;> split
  exacts [hal.rezeroDetector, hal, har.rezeroDetector, har, hbl.rezeroDetector, hbl, hbr.rezeroDetector, hbr]

theorem QuadInRange.takeRezero {f : RxFrame} {s : State} (h : QuadInRange s.det) :
    QuadInRange (takeRezero f s).det := by
  unfold Machine.takeRezero refuseField
  split
  · split
    · simpa using h
    · simpa using h.rezeroed
  · simpa using h

theorem QuadInRange.strobeEffect {s : State} (hu : ThresholdsOk s.setup) (h : QuadInRange s.det) :
    QuadInRange (strobeEffect s).det := by
  unfold Machine.strobeEffect
  split
  · exact QuadInRange.missingSet (by simpa using hu) (by simpa using h)
  · simpa using h

/-- Every act keeps the four detectors in range. -/
theorem QuadInRange.acts {s t : State} {c : Instr} (h : QuadInRange s.det) (hu : ThresholdsOk s.setup)
    (hacts : Acts s c t) : QuadInRange t.det := by
  cases hacts with
  | powerOn => exact quadInRange_reset
  | supplyLow => exact quadInRange_reset
  | resetLine => exact quadInRange_reset
  | linkRestart => exact quadInRange_reset
  | strobe => exact h.strobeEffect hu
  | goodSet =>
    simpa using QuadInRange.takeSet (s := s.withOutstanding none) hu h (sampleInRange_inputSample ..)
      (sampleInRange_inputSample ..) (sampleInRange_inputSample ..) (sampleInRange_inputSample ..)
  | badSet => exact QuadInRange.missingSet hu h
  | selftestWaitExpiry =>
    obtain ⟨hal, har, hbl, hbr⟩ := h
    simpa using ⟨hal.silenceDetector, har.silenceDetector, hbl.silenceDetector, hbr.silenceDetector⟩
  | rezero => exact QuadInRange.takeRezero (by simpa using h)
  | _ => simpa using h

/-- Settles O6: a step idles or is an act, and every act keeps the settings valid and the detectors in range. -/
theorem detectorsStayInRange : Obligations.DetectorsStayInRange := by
  unfold Obligations.DetectorsStayInRange
  intro s t h hstep
  rcases step_exec hstep with rfl | ⟨c, rest, hexec⟩
  · exact h
  · rcases exec_next_acts hexec with rfl | hacts
    · exact h
    · exact ⟨SettingsValid.acts (s := s.withPending rest) h.1 hacts,
        QuadInRange.acts (s := s.withPending rest) h.2 (thresholdsOk_of_settings h.1.1) hacts⟩

end Sys2Proof.Machine

namespace Sys2Proof.Machine

open Sys2Proof

/-! What every operation keeps: no counter falls, no collection outgrows its capacity, and the frames held for sending stay as
the link rules leave them. Each operation is said once; the commands are compositions of them. -/

/-! ### The conditions, block by block -/

/-- No counter of `d` is below that of `c`, and they fit 16 bits as those of `c` did (R186). -/
def CountersRise (c d : Counters) : Prop :=
  (∀ n ∈ c.values, n ≤ countMax) →
    List.Forall₂ (fun m n => m ≤ n) c.values d.values ∧ ∀ n ∈ d.values, n ≤ countMax

/-- The A-pending lists are within their capacity (R21). -/
def PairerFits (q : PerPath (List PulseRec)) : Prop := q.left.length ≤ pendingCap ∧ q.right.length ≤ pendingCap

/-- The lists of the axle former are within their capacities (R60, R69, R74). -/
def FormerFits (f : Former) : Prop :=
  f.holding.left.length ≤ holdingCap ∧ f.holding.right.length ≤ holdingCap ∧ f.merges.length ≤ mergeCap ∧
    f.halves.length ≤ halvesCap

/-- An entry is OPEN. -/
def isOpen (v : Vehicle) : Bool := decide (v.state = .opened)

/-- The vehicle table and its axle lists are within their capacities, and at most one entry is OPEN (R84). -/
def VehFits (a : Assembler) : Prop :=
  a.entries.length ≤ vehicleCap ∧ (∀ v ∈ a.entries, v.axles.length ≤ axleCap) ∧ a.entries.countP isOpen ≤ 1

/-- A frame held for sending has fewer than eight collisions and a backoff in range (R143, R145). -/
def FrameFits (f : TxFrame) : Prop := f.collisions < collisionLimit ∧ f.backoff ≤ 15

/-- The number of frames in transmission. -/
def sendingIn (l : Link) : Nat := l.immediate.toList.countP TxFrame.sending + l.queue.countP TxFrame.sending

/-- The queues of the link are within their capacities, and its frames are as the link rules leave them (R137, R143 to
R147). -/
def LinkFits (l : Link) : Prop :=
  l.rxQueue.length ≤ rxCap ∧ l.queue.length ≤ txCap ∧ (∀ f ∈ l.immediate, f.kind = .overload) ∧ sendingIn l ≤ 1 ∧
    (∀ f ∈ l.immediate, FrameFits f) ∧ (∀ f ∈ l.queue, FrameFits f) ∧ l.lfsr ≠ 0

/-- Station `t` is left by station `s` in good order: every block that fits still fits, and no counter falls. -/
structure Orderly (s t : State) : Prop where
  counters : CountersRise s.counters t.counters
  pairer : PairerFits s.pairer → PairerFits t.pairer
  weigh : s.weigh.queue.length ≤ weighCap → t.weigh.queue.length ≤ weighCap
  former : FormerFits s.former → FormerFits t.former
  veh : VehFits s.veh → VehFits t.veh
  link : LinkFits s.link → LinkFits t.link

theorem CountersRise.refl (c : Counters) : CountersRise c c :=
  fun h => ⟨List.forall₂_refl _, h⟩

theorem forall₂_le_trans {l m n : List Nat} (h : List.Forall₂ (fun a b => a ≤ b) l m)
    (h' : List.Forall₂ (fun a b => a ≤ b) m n) : List.Forall₂ (fun a b => a ≤ b) l n := by
  induction h generalizing n with
  | nil => exact h'
  | cons hab _ ih =>
    cases h' with
    | cons hbc h' => exact .cons (hab.trans hbc) (ih h')

theorem CountersRise.trans {c d e : Counters} (h : CountersRise c d) (h' : CountersRise d e) : CountersRise c e := by
  intro hc
  obtain ⟨hle, hd⟩ := h hc
  obtain ⟨hle', he⟩ := h' hd
  exact ⟨forall₂_le_trans hle hle', he⟩

theorem Orderly.refl (s : State) : Orderly s s := ⟨.refl _, id, id, id, id, id⟩

theorem Orderly.trans {s t u : State} (h : Orderly s t) (h' : Orderly t u) : Orderly s u :=
  ⟨h.counters.trans h'.counters, h'.pairer ∘ h.pairer, h'.weigh ∘ h.weigh, h'.former ∘ h.former, h'.veh ∘ h.veh,
    h'.link ∘ h.link⟩

/-- A change outside the six blocks is in good order. -/
theorem Orderly.of_frame {s t : State} (hc : t.counters = s.counters) (hp : t.pairer = s.pairer)
    (hw : t.weigh = s.weigh) (hf : t.former = s.former) (hv : t.veh = s.veh) (hl : t.link = s.link) : Orderly s t :=
  ⟨hc ▸ .refl _, fun h => hp ▸ h, fun h => hw ▸ h, fun h => hf ▸ h, fun h => hv ▸ h, fun h => hl ▸ h⟩

theorem orderly_withLink {s : State} {l : Link} (h : LinkFits s.link → LinkFits l) : Orderly s (s.withLink l) :=
  ⟨.refl _, id, id, id, id, h⟩

theorem orderly_withVeh {s : State} {a : Assembler} (h : VehFits s.veh → VehFits a) : Orderly s (s.withVeh a) :=
  ⟨.refl _, id, id, id, h, id⟩

theorem orderly_withFormer {s : State} {f : Former} (h : FormerFits s.former → FormerFits f) :
    Orderly s (s.withFormer f) :=
  ⟨.refl _, id, id, h, id, id⟩

theorem orderly_withPairer {s : State} {q : PerPath (List PulseRec)} (h : PairerFits s.pairer → PairerFits q) :
    Orderly s (s.withPairer q) :=
  ⟨.refl _, h, id, id, id, id⟩

theorem orderly_withWeigh {s : State} {w : WeighUnit}
    (h : s.weigh.queue.length ≤ weighCap → w.queue.length ≤ weighCap) : Orderly s (s.withWeigh w) :=
  ⟨.refl _, id, h, id, id, id⟩

/-! ### Counters and notices -/

/-- The index of a counter in table 13 (R157). -/
def Counter.index : Counter → Nat
  | .vehiclesSent => 0
  | .axlesFormed => 1
  | .orphanA => 2
  | .orphanB => 3
  | .weighLoss => 4
  | .vehicleLoss => 5
  | .mergeFull => 6
  | .halvesDropped => 7
  | .mergesTaken => 8
  | .mergesCeded => 9
  | .mergeConflict => 10
  | .unconfirmed => 11
  | .cededWhole => 12
  | .rxLoss => 13
  | .crcFailures => 14
  | .txDrop => 15
  | .collisions => 16
  | .abandoned => 17

theorem bump_values (c : Counters) (k : Counter) : (c.bump k).values = c.values.modify k.index satInc := by
  cases k <;> rfl

theorem forall₂_modify_satInc {l : List Nat} (i : Nat) (h : ∀ n ∈ l, n ≤ countMax) :
    List.Forall₂ (fun m n => m ≤ n) l (l.modify i satInc) ∧ ∀ n ∈ l.modify i satInc, n ≤ countMax := by
  induction l generalizing i with
  | nil => simp
  | cons n l ih =>
    obtain ⟨hn, hl⟩ := List.forall_mem_cons.1 h
    cases i with
    | zero => simpa [le_satInc hn, countMax, satInc_le, List.forall₂_same] using hl
    | succ i => simpa [hn] using ih i hl

theorem countersRise_bump (c : Counters) (k : Counter) : CountersRise c (c.bump k) := fun h => by
  rw [bump_values]
  exact forall₂_modify_satInc k.index h

theorem orderly_bump (k : Counter) (s : State) : Orderly s (bump k s) :=
  ⟨countersRise_bump _ k, id, id, id, id, id⟩

theorem orderly_bumpTimes (k : Counter) (n : Nat) (s : State) : Orderly s (bumpTimes k n s) := by
  induction n generalizing s with
  | zero => exact .refl s
  | succ n ih => exact (orderly_bump k s).trans (ih _)

/-- A link with each queued frame changed in a way that keeps what the link rules look at. -/
theorem LinkFits.map {l : Link} (h : LinkFits l) {g : TxFrame → TxFrame}
    (hg : ∀ f, (g f).sending = f.sending ∧ (g f).collisions = f.collisions ∧ (g f).backoff = f.backoff) :
    LinkFits { l with queue := l.queue.map g } := by
  obtain ⟨hrx, hq, hkind, hsend, himm, hframes, hlfsr⟩ := h
  refine ⟨hrx, by simpa using hq, hkind, ?_, himm, fun f hf => ?_, hlfsr⟩
  · have hcomp : TxFrame.sending ∘ g = TxFrame.sending := funext fun f => (hg f).1
    simpa [sendingIn, List.countP_map, hcomp] using hsend
  · obtain ⟨f₀, hf₀, rfl⟩ := List.mem_map.1 hf
    obtain ⟨-, hcoll, hback⟩ := hg f₀
    exact ⟨hcoll ▸ (hframes f₀ hf₀).1, hback ▸ (hframes f₀ hf₀).2⟩

theorem orderly_raise (n : Notice) (s : State) : Orderly s (raise n s) :=
  ⟨.refl _, id, id, id, id, fun h => h.map fun _ => ⟨rfl, rfl, rfl⟩⟩

theorem orderly_mergeConflict (s : State) : Orderly s (mergeConflict s) :=
  (orderly_bump _ s).trans (orderly_raise _ _)

theorem orderly_mergeFull (s : State) : Orderly s (mergeFull s) := (orderly_bump _ s).trans (orderly_raise _ _)

theorem orderly_txDrop (s : State) : Orderly s (txDrop s) := (orderly_bump _ s).trans (orderly_raise _ _)

/-! ### The transmit queue -/

/-- A frame as it is offered: no collision, no draw, not in transmission. -/
def IsFresh (f : TxFrame) : Prop := f.collisions = 0 ∧ f.backoff = 0 ∧ f.sending = false

theorem isFresh_mkFrame (k : FrameKind) (dst : Byte) (p : List Byte) : IsFresh (mkFrame k dst p) := ⟨rfl, rfl, rfl⟩

theorem IsFresh.fits {f : TxFrame} (h : IsFresh f) : FrameFits f := ⟨h.1 ▸ by decide, h.2.1 ▸ by decide⟩

/-- Frames may leave the queue. -/
theorem LinkFits.sublist {l : Link} (h : LinkFits l) {q : List TxFrame} (hq : q.Sublist l.queue) :
    LinkFits { l with queue := q } := by
  obtain ⟨hrx, hlen, hkind, hsend, himm, hframes, hlfsr⟩ := h
  exact ⟨hrx, hq.length_le.trans hlen, hkind, (Nat.add_le_add_left hq.countP_le _).trans hsend, himm,
    fun f hf => hframes f (hq.subset hf), hlfsr⟩

theorem LinkFits.append {l : Link} (h : LinkFits l) {f : TxFrame} (hf : IsFresh f) (hroom : l.queue.length < txCap) :
    LinkFits { l with queue := l.queue ++ [f] } := by
  obtain ⟨hrx, hlen, hkind, hsend, himm, hframes, hlfsr⟩ := h
  refine ⟨hrx, by simpa using hroom, hkind, by simpa [sendingIn, hf.2.2] using hsend, himm, fun g hg => ?_, hlfsr⟩
  rcases List.mem_append.1 hg with hold | hnew
  · exact hframes g hold
  · exact List.mem_singleton.1 hnew ▸ hf.fits

theorem changeFirst_sublist_or {α : Type} (p : α → Bool) (g : α → α) (l : List α) :
    changeFirst p g l = l ∨ ∃ before a behind, l = before ++ a :: behind ∧ p a = true ∧
      (∀ x ∈ before, p x = false) ∧ changeFirst p g l = before ++ g a :: behind := by
  induction l with
  | nil => exact .inl rfl
  | cons a l ih =>
    unfold changeFirst
    split
    · next hp => exact .inr ⟨[], a, l, rfl, hp, by simp, rfl⟩
    · next hp =>
      rcases ih with hkeep | ⟨before, b, behind, hl, hb, hbefore, heq⟩
      · exact .inl (by rw [hkeep])
      · exact .inr ⟨a :: before, b, behind, by rw [hl]; rfl, hb,
          List.forall_mem_cons.2 ⟨Bool.not_eq_true _ ▸ hp, hbefore⟩, by rw [heq]; rfl⟩

/-- One frame of the queue may be put in place of another that is in transmission as much as it. -/
theorem LinkFits.changeFirst {l : Link} (h : LinkFits l) {p : TxFrame → Bool} {g : TxFrame → TxFrame}
    (hg : ∀ f, p f = true → FrameFits f → FrameFits (g f) ∧ ((g f).sending = true → f.sending = true)) :
    LinkFits { l with queue := Machine.changeFirst p g l.queue } := by
  rcases changeFirst_sublist_or p g l.queue with hkeep | ⟨before, a, behind, hl, ha, -, heq⟩
  · rw [hkeep]; exact h
  · obtain ⟨hrx, hlen, hkind, hsend, himm, hframes, hlfsr⟩ := h
    have hmem : a ∈ l.queue := by simp [hl]
    obtain ⟨hfits, hsending⟩ := hg a ha (hframes a hmem)
    have hsub : ∀ x ∈ before ++ behind, x ∈ l.queue := fun x hx => by
      rw [hl]; exact (List.mem_append.1 hx).elim (by simp +contextual) (by simp +contextual)
    refine ⟨hrx, by rw [changeFirst_length]; exact hlen, hkind, ?_, himm, fun f hf => ?_, hlfsr⟩
    · have hle : (before ++ g a :: behind).countP TxFrame.sending ≤ l.queue.countP TxFrame.sending := by
        rw [hl]
        simp only [List.countP_append, List.countP_cons]
        split <;> split <;> simp_all
      rw [sendingIn, heq]
      exact (Nat.add_le_add_left hle _).trans hsend
    · rw [heq] at hf
      rcases List.mem_append.1 hf with hb | hb
      · exact hframes f (hsub f (by simp [hb]))
      · rcases List.mem_cons.1 hb with rfl | hb
        · exact hfits
        · exact hframes f (hsub f (by simp [hb]))

theorem dropFirst_sublist {α : Type} (p : α → Bool) (l : List α) : (dropFirst p l).Sublist l := by
  induction l with
  | nil => exact .slnil
  | cons a l ih =>
    unfold dropFirst
    split
    · exact List.sublist_cons_self a l
    · exact ih.cons_cons a

theorem dropLast_sublist {α : Type} (p : α → Bool) (l : List α) : (dropLast p l).Sublist l :=
  List.reverse_sublist.1 (by simpa [dropLast] using dropFirst_sublist p l.reverse)

theorem orderly_drop {s : State} {q : List TxFrame} (hq : q.Sublist s.link.queue) : Orderly s (withQueue s q) :=
  orderly_withLink fun h => h.sublist hq

theorem orderly_takePlace {f : TxFrame} {s : State} (hf : IsFresh f) (hroom : s.link.queue.length < txCap) :
    Orderly s (takePlace f s) :=
  orderly_withLink fun h => h.append hf hroom

theorem orderly_offerPlain {f : TxFrame} (hf : IsFresh f) (s : State) : Orderly s (offerPlain f s).1 := by
  unfold offerPlain
  split
  · next hroom => exact orderly_takePlace hf (by simpa [placeFree] using hroom)
  · exact orderly_txDrop s

theorem orderly_offerBeacon {f : TxFrame} (hf : IsFresh f) (s : State) : Orderly s (offerBeacon f s) := by
  unfold offerBeacon
  split
  · exact orderly_withLink fun h => h.changeFirst fun _ _ _ => ⟨hf.fits, by simp [hf.2.2]⟩
  · exact orderly_offerPlain hf s

end Sys2Proof.Machine

namespace Sys2Proof.Machine

open Sys2Proof

/-! ### The vehicle table -/

/-- Entries may be changed without being opened and without gaining axles. -/
theorem VehFits.map {a : Assembler} (h : VehFits a) {g : Vehicle → Vehicle}
    (hg : ∀ v ∈ a.entries, (isOpen (g v) = true → isOpen v = true) ∧
      ((g v).axles.length ≤ v.axles.length ∨ (g v).axles.length ≤ axleCap)) :
    VehFits { a with entries := a.entries.map g } := by
  obtain ⟨hlen, haxles, hopen⟩ := h
  refine ⟨by simpa using hlen, fun w hw => ?_, ?_⟩
  · obtain ⟨v, hv, rfl⟩ := List.mem_map.1 hw
    rcases (hg v hv).2 with hle | hle
    · exact hle.trans (haxles v hv)
    · exact hle
  · rw [List.countP_map]
    exact (List.countP_mono_left fun v hv hp => (hg v hv).1 hp).trans hopen

theorem VehFits.filter {a : Assembler} (h : VehFits a) (p : Vehicle → Bool) (order : List (BitVec 16)) :
    VehFits { a with entries := a.entries.filter p, closingOrder := order } := by
  obtain ⟨hlen, haxles, hopen⟩ := h
  have hsub : (a.entries.filter p).Sublist a.entries := List.filter_sublist
  exact ⟨hsub.length_le.trans hlen, fun v hv => haxles v (hsub.subset hv), hsub.countP_le.trans hopen⟩

theorem orderly_changeVehicle {number : BitVec 16} {g : Vehicle → Vehicle} {s : State}
    (hopen : ∀ v, isOpen (g v) = true → isOpen v = true) (haxles : ∀ v, (g v).axles.length ≤ v.axles.length) :
    Orderly s (changeVehicle number g s) :=
  orderly_withVeh fun h => h.map fun v _ => by
    split
    · exact ⟨hopen v, .inl (haxles v)⟩
    · exact ⟨id, .inl le_rfl⟩

theorem orderly_returnToReady (f : TxFrame) (s : State) : Orderly s (returnToReady f s) := by
  unfold returnToReady
  split
  · exact orderly_changeVehicle (by simp [isOpen]) (by simp)
  · exact .refl s

theorem Orderly.takePlace {s u : State} (h : Orderly s u) {f : TxFrame} (hf : IsFresh f)
    (hroom : LinkFits s.link → u.link.queue.length < txCap) : Orderly s (takePlace f u) :=
  ⟨h.counters, h.pairer, h.weigh, h.former, h.veh, fun hl => (h.link hl).append hf (hroom hl)⟩

theorem dropFirst_length {α : Type} {p : α → Bool} {l : List α} (h : l.any p = true) :
    (dropFirst p l).length + 1 = l.length := by
  induction l with
  | nil => simp at h
  | cons a l ih =>
    unfold dropFirst
    split
    · rfl
    · next hp => simpa using ih (by simpa [hp] using h)

theorem dropLast_length {α : Type} {p : α → Bool} {l : List α} (h : l.any p = true) :
    (dropLast p l).length + 1 = l.length := by
  simpa [dropLast] using dropFirst_length (l := l.reverse) (p := p) (by simpa using h)

@[simp] theorem raise_queue_length (n : Notice) (s : State) :
    (raise n s).link.queue.length = s.link.queue.length := by
  simp [raise]

@[simp] theorem txDrop_queue_length (s : State) : (txDrop s).link.queue.length = s.link.queue.length := by
  simp [txDrop]

@[simp] theorem withQueue_queue (s : State) (q : List TxFrame) : (withQueue s q).link.queue = q := rfl

theorem orderly_offerUrgent {f : TxFrame} (hf : IsFresh f) (s : State) : Orderly s (offerUrgent f s).1 := by
  unfold offerUrgent
  split_ifs with hroom hany hclass
  · exact orderly_takePlace hf (by simpa [placeFree] using hroom)
  · refine ((orderly_drop (dropFirst_sublist _ _)).trans (orderly_txDrop _)).takePlace hf fun hl => ?_
    have hlen := dropFirst_length hany
    have hmax := hl.2.1
    simp only [txDrop_queue_length, withQueue_queue]
    omega
  · split
    · next v hv =>
      have hany' : s.link.queue.any vehicleWaiting = true :=
        List.any_eq_true.2 ⟨v, by simpa using List.mem_of_find?_eq_some hv, List.find?_some hv⟩
      refine ((orderly_drop (dropLast_sublist _ _)).trans (orderly_returnToReady v _)).takePlace hf fun hl => ?_
      have hlen := dropLast_length hany'
      have hmax := hl.2.1
      simp only [returnToReady_frame, withQueue_queue]
      omega
    · exact orderly_txDrop s
  · exact .refl s

theorem orderly_admitVehicle {v : Vehicle} {s : State} (hroom : twoFree s = true) :
    Orderly s (admitVehicle v s) := by
  have hlt : s.link.queue.length < txCap := by
    simp only [twoFree, decide_eq_true_eq] at hroom
    omega
  exact (orderly_takePlace ⟨rfl, rfl, rfl⟩ hlt).trans (orderly_changeVehicle (by simp [isOpen]) (by simp))

theorem orderly_offerList (l : List (BitVec 16)) (s : State) : Orderly s (offerList l s) := by
  induction l generalizing s with
  | nil => exact .refl s
  | cons number l ih =>
    unfold offerList
    split
    · split_ifs with hready hroom
      · exact (orderly_admitVehicle hroom).trans (ih _)
      · exact .refl s
      · exact ih s
    · exact ih s

theorem orderly_offerReady (s : State) : Orderly s (offerReady s) := orderly_offerList _ s

theorem orderly_freeVehicle (number : BitVec 16) (s : State) : Orderly s (freeVehicle number s) :=
  orderly_withVeh fun h => h.filter _ _

/-- The emptied immediate slot may take an OVERLOAD frame of the queue. -/
theorem orderly_refillImmediate {s : State} (hempty : s.link.immediate = none) : Orderly s (refillImmediate s) := by
  unfold refillImmediate
  split
  · next f rest htake =>
    refine Orderly.trans (orderly_withLink fun h => ?_) (orderly_offerReady _)
    obtain ⟨before, behind, hq, rfl, hp, -⟩ := takeFirst_some htake
    obtain ⟨hrx, hlen, -, hsend, -, hframes, hlfsr⟩ := h
    have hsub : (before ++ behind).Sublist s.link.queue := by rw [hq]; simp
    refine ⟨hrx, hsub.length_le.trans hlen, by simpa [isOverload] using hp, ?_,
      by simpa using hframes f (by simp [hq]), fun g hg => hframes g (hsub.subset hg), hlfsr⟩
    rw [sendingIn, hempty, hq] at hsend
    simp only [sendingIn, List.countP_append, List.countP_cons, Option.toList_none, List.countP_nil,
      Option.toList_some] at hsend ⊢
    omega
  · exact .refl s

theorem orderly_offerOverload {f : TxFrame} (hf : IsFresh f) (hk : f.kind = .overload) (s : State) :
    Orderly s (offerOverload f s).1 := by
  unfold offerOverload
  split
  · next hnone =>
    refine orderly_withLink fun h => ?_
    obtain ⟨hrx, hlen, -, hsend, -, hframes, hlfsr⟩ := h
    refine ⟨hrx, hlen, by simp [hk], ?_, by simpa using hf.fits, hframes, hlfsr⟩
    rw [Option.isNone_iff_eq_none] at hnone
    simpa [sendingIn, hf.2.2, hnone] using hsend
  · exact orderly_offerUrgent hf s

theorem orderly_classVehicle (v : Vehicle) (s : State) : Orderly s (classVehicle v s) := by
  unfold classVehicle
  dsimp only
  split
  · exact (orderly_offerOverload (isFresh_mkFrame ..) rfl s).trans (orderly_changeVehicle (by simp [isOpen]) (by simp))
  · exact orderly_changeVehicle (by simp [isOpen]) (by simp)

theorem orderly_enterClosed (number : BitVec 16) (s : State) : Orderly s (enterClosed number s) :=
  (orderly_withVeh (a := { s.veh with closingOrder := s.veh.closingOrder ++ [number] }) id).trans
    (orderly_changeVehicle (by simp [isOpen]) (by simp))

theorem orderly_leaveClosing (number : BitVec 16) (s : State) : Orderly s (leaveClosing number s) := by
  unfold leaveClosing
  split
  · split_ifs
    · exact (orderly_freeVehicle number s).trans (orderly_bump _ _)
    · exact (orderly_enterClosed number s).trans ((orderly_classVehicle _ _).trans (orderly_offerReady _))
    · exact .refl s
  · exact .refl s

theorem orderly_changeOpen {g : Vehicle → Vehicle} {s : State}
    (haxles : VehFits s.veh → ∀ v ∈ s.veh.entries, isOpen v = true →
      (g v).axles.length ≤ v.axles.length ∨ (g v).axles.length ≤ axleCap) : Orderly s (changeOpen g s) :=
  orderly_withVeh fun h => h.map fun v hv => by
    split
    · next hopen => exact ⟨fun _ => by simpa [isOpen] using hopen, haxles h v hv (by simpa [isOpen] using hopen)⟩
    · exact ⟨id, .inl le_rfl⟩

theorem orderly_closeEntry (number : BitVec 16) (cause : CloseCause) (s : State) :
    Orderly s (closeEntry number cause s) :=
  (orderly_changeOpen (g := closingVehicle cause) fun _ _ _ _ => .inl le_rfl).trans (orderly_leaveClosing _ _)

theorem orderly_truncateEntry (number : BitVec 16) (s : State) : Orderly s (truncateEntry number s) :=
  (orderly_changeOpen (g := fun v => { v with truncated := true }) fun _ _ _ _ => .inl le_rfl).trans
    (orderly_closeEntry _ _ _)

/-! ### No entry is OPEN once the OPEN one was closed -/

/-- No vehicle entry is OPEN. -/
def NoneOpen (s : State) : Prop := ∀ v ∈ s.veh.entries, v.state ≠ .opened

theorem openEntry_none_iff {s : State} : openEntry s = none ↔ NoneOpen s := by
  simp [openEntry, NoneOpen]

theorem NoneOpen.changeVehicle {number : BitVec 16} {g : Vehicle → Vehicle} {s : State} (h : NoneOpen s)
    (hg : ∀ v, v.state ≠ .opened → (g v).state ≠ .opened) : NoneOpen (changeVehicle number g s) := by
  intro w hw
  obtain ⟨v, hv, rfl⟩ := List.mem_map.1 hw
  split
  · exact hg v (h v hv)
  · exact h v hv

theorem NoneOpen.of_entries {s t : State} (h : NoneOpen s) (heq : t.veh.entries = s.veh.entries) : NoneOpen t := by
  rwa [NoneOpen, heq]

theorem NoneOpen.returnToReady {f : TxFrame} {s : State} (h : NoneOpen s) : NoneOpen (returnToReady f s) := by
  unfold Machine.returnToReady
  split
  · exact h.changeVehicle (by simp)
  · exact h

theorem NoneOpen.offerUrgent {f : TxFrame} {s : State} (h : NoneOpen s) : NoneOpen (offerUrgent f s).1 := by
  unfold Machine.offerUrgent
  (repeat' split)
  · exact h
  · exact h
  · exact NoneOpen.returnToReady (s := withQueue s _) h
  · exact h
  · exact h

theorem NoneOpen.offerList {l : List (BitVec 16)} {s : State} (h : NoneOpen s) : NoneOpen (offerList l s) := by
  induction l generalizing s with
  | nil => exact h
  | cons number l ih =>
    unfold Machine.offerList
    split
    · split_ifs
      · exact ih (NoneOpen.changeVehicle (s := Machine.takePlace _ s) h (by simp))
      · exact h
      · exact ih h
    · exact ih h

theorem NoneOpen.offerOverload {f : TxFrame} {s : State} (h : NoneOpen s) : NoneOpen (offerOverload f s).1 := by
  unfold Machine.offerOverload
  split
  · exact h
  · exact h.offerUrgent

theorem NoneOpen.classVehicle {v : Vehicle} {s : State} (h : NoneOpen s) : NoneOpen (classVehicle v s) := by
  unfold Machine.classVehicle
  dsimp only
  split
  · exact h.offerOverload.changeVehicle (by simp)
  · exact h.changeVehicle (by simp)

theorem NoneOpen.leaveClosing {number : BitVec 16} {s : State} (h : NoneOpen s) : NoneOpen (leaveClosing number s) := by
  unfold Machine.leaveClosing
  split
  · split_ifs
    · exact fun v hv => h v (List.mem_of_mem_filter hv)
    · refine NoneOpen.offerList (NoneOpen.classVehicle ?_)
      exact NoneOpen.changeVehicle (s := s.withVeh _) h (by simp)
    · exact h
  · exact h

theorem noneOpen_closeEntry (number : BitVec 16) (cause : CloseCause) (s : State) :
    NoneOpen (closeEntry number cause s) := by
  refine NoneOpen.leaveClosing fun w hw => ?_
  obtain ⟨v, hv, rfl⟩ := List.mem_map.1 hw
  split
  · simp [closingVehicle]
  · assumption

/-! ### An axle arrives -/

theorem insertAxle_length (a : Axle) (l : List Axle) : (insertAxle a l).length = l.length + 1 := by
  induction l with
  | nil => rfl
  | cons b l ih =>
    unfold insertAxle
    split
    · rfl
    · simp [ih]

theorem orderly_openVehicle {a : Axle} {lead : Option Nat} {s : State} (hnone : NoneOpen s) :
    Orderly s (openVehicle a lead s).1 := by
  unfold openVehicle
  split
  · next hroom =>
    refine orderly_withVeh fun h => ?_
    obtain ⟨hlen, haxles, -⟩ := h
    refine ⟨by simpa using hroom, fun v hv => ?_, ?_⟩
    · rcases List.mem_append.1 hv with hold | hnew
      · exact haxles v hold
      · simp [List.mem_singleton.1 hnew, newVehicle, axleCap]
    · have hzero : s.veh.entries.countP isOpen = 0 := List.countP_eq_zero.2 fun v hv => by simpa [isOpen] using hnone v hv
      simp only [List.countP_append, hzero, Nat.zero_add]
      exact List.countP_le_length
  · exact (orderly_bump _ s).trans (orderly_raise _ _)

/-- At most one entry is OPEN, so the one found is the only one. -/
theorem VehFits.open_unique {a : Assembler} (h : VehFits a) {v w : Vehicle}
    (hv : a.entries.find? (fun v => decide (v.state = .opened)) = some v) (hw : w ∈ a.entries)
    (hopen : isOpen w = true) : w = v := by
  have hlen : (a.entries.filter isOpen).length ≤ 1 := by rw [← List.countP_eq_length_filter]; exact h.2.2
  have hw' : w ∈ a.entries.filter isOpen := List.mem_filter.2 ⟨hw, hopen⟩
  have hv' : v ∈ a.entries.filter isOpen :=
    List.mem_filter.2 ⟨List.mem_of_find?_eq_some hv, by simpa [isOpen] using List.find?_some hv⟩
  rcases hl : a.entries.filter isOpen with _ | ⟨x, _ | ⟨y, l⟩⟩
  · simp [hl] at hw'
  · rw [hl, List.mem_singleton] at hw' hv'
    exact hw'.trans hv'.symm
  · simp [hl] at hlen

theorem orderly_placeAxle (a : Axle) (s : State) : Orderly s (placeAxle a s).1 := by
  unfold placeAxle
  split
  · next hnone => exact orderly_openVehicle (openEntry_none_iff.1 hnone)
  · next v hv =>
    split_ifs with hjoin hroom
    · refine orderly_changeOpen fun hfits w hw hopen => .inr ?_
      rw [hfits.open_unique hv hw hopen]
      simpa [joinVehicle, insertAxle_length] using hroom
    · exact (orderly_truncateEntry _ s).trans (orderly_openVehicle (noneOpen_closeEntry _ _ _))
    all_goals exact (orderly_closeEntry _ _ s).trans (orderly_openVehicle (noneOpen_closeEntry _ _ _))

theorem orderly_endRun (s : State) : Orderly s (endRun s) := orderly_withVeh id

theorem orderly_handAxle (a : Axle) (s : State) : Orderly s (handAxle a s).1 :=
  ((orderly_bump _ s).trans (orderly_endRun _)).trans (orderly_placeAxle a _)

theorem orderly_handPart (w : OwnWheel) (ref : Option Byte) (s : State) : Orderly s (handPart w ref s) :=
  orderly_handAxle _ s

/-! ### Linked axles -/

theorem orderly_changeAxle (e : MergeEntry) (g : Axle → Axle) (s : State) : Orderly s (changeAxle e g s) :=
  orderly_changeVehicle (fun _ => id) (by simp)

theorem orderly_removeAxle (e : MergeEntry) (s : State) : Orderly s (removeAxle e s) :=
  orderly_changeVehicle (fun _ => id) fun _ => List.length_filter_le _ _

theorem orderly_moveAxle (e : MergeEntry) (g : Axle → Axle) (b : Bool) (s : State) :
    Orderly s (moveAxle e g b s) := by
  refine orderly_changeVehicle (fun v => ?_) fun v => ?_
  · split <;> exact id
  · split
    · next a rest htake =>
      obtain ⟨before, behind, hl, rfl, -, -⟩ := takeFirst_some htake
      simp only [insertAxle_length, hl, List.length_append, List.length_cons]
      omega
    · exact le_rfl

end Sys2Proof.Machine

namespace Sys2Proof.Machine

open Sys2Proof

/-! ### The axle former -/

theorem orderly_withMerges {s : State} {l : List MergeEntry}
    (h : s.former.merges.length ≤ mergeCap → l.length ≤ mergeCap) : Orderly s (withMerges s l) :=
  orderly_withFormer fun ⟨hl, hr, hm, hh⟩ => ⟨hl, hr, h hm, hh⟩

theorem orderly_changeMerge (slot : Nat) (g : MergeEntry → MergeEntry) (s : State) :
    Orderly s (changeMerge slot g s) :=
  orderly_withMerges (by simp)

theorem orderly_freeMerge (slot : Nat) (s : State) : Orderly s (freeMerge slot s) :=
  orderly_withMerges (List.length_filter_le _ _).trans

theorem orderly_addMerge {e : MergeEntry} {s : State} (hroom : s.former.merges.length < mergeCap) :
    Orderly s (addMerge e s) :=
  orderly_withMerges fun _ => by simpa using hroom

theorem orderly_advanceRef (r : Byte) (s : State) : Orderly s (advanceRef r s) := orderly_withFormer id

theorem orderly_dropHalf (sender ref : Byte) (s : State) : Orderly s (dropHalf sender ref s) :=
  orderly_withFormer fun ⟨hl, hr, hm, hh⟩ => ⟨hl, hr, hm, (List.length_filter_le _ _).trans hh⟩

theorem orderly_giveUpMerge (e : MergeEntry) (s : State) : Orderly s (giveUpMerge e s) :=
  ((orderly_changeAxle e _ s).trans (orderly_freeMerge _ _)).trans (orderly_leaveClosing _ _)

theorem orderly_takeMerge (e : MergeEntry) (h : PeerHalf) (s : State) : Orderly s (takeMerge e h s) := by
  unfold takeMerge
  have hoffer := orderly_offerUrgent (isFresh_mkFrame .mergeTake e.partner [h.ref]) s
  dsimp only
  split
  · exact ((((hoffer.trans (orderly_changeMerge _ _ _)).trans (orderly_dropHalf _ _ _)).trans
      (orderly_moveAxle _ _ _ _)).trans (orderly_bump _ _))
  · exact (hoffer.trans (orderly_giveUpMerge _ _)).trans (orderly_mergeFull _)

theorem orderly_cederHalf (w : OwnWheel) (s : State) : Orderly s (cederHalf w s) := by
  unfold cederHalf
  split
  · exact orderly_handPart _ _ s
  · next p hp =>
    dsimp only
    have hoffer := (orderly_advanceRef (nextRef s.former) s).trans
      (orderly_offerUrgent (isFresh_mkFrame .halfAxle p.station (halfPayload (nextRef s.former) w)) _)
    split_ifs with hfull hadmit
    · exact (orderly_handPart _ _ s).trans (orderly_mergeFull _)
    · have hhand := hoffer.trans
        (orderly_handAxle (pendingAxle w (some (nextRef s.former)) (freeSlot s.former.merges)) _)
      split
      · exact hhand.trans (orderly_addMerge (by simpa [advanceRef] using hfull))
      · exact hhand
    · exact (hoffer.trans (orderly_handPart _ _ _)).trans (orderly_mergeFull _)

theorem orderly_ownerHalf (w : OwnWheel) (s : State) : Orderly s (ownerHalf w s) := by
  unfold ownerHalf
  split
  · exact orderly_handPart _ _ s
  · next p hp =>
    dsimp only
    split_ifs with hfull
    · exact (orderly_handPart _ _ s).trans (orderly_mergeFull _)
    · have hhand := orderly_handAxle (pendingAxle w none (freeSlot s.former.merges)) s
      split
      · next number _ =>
        have hadd := hhand.trans (orderly_addMerge
          (e := { slot := freeSlot s.former.merges, state := .waiting, partner := p.station, ref := none,
                  deadline := after s.tick ownerWait, vehicle := number, own := w }) (by simpa using hfull))
        split
        · exact hadd.trans (orderly_takeMerge _ _ _)
        · exact hadd
      · exact hhand

theorem orderly_takeLone (w : WeighedHit) (s : State) : Orderly s (takeLone w s) := by
  unfold takeLone
  split <;> split
  · exact orderly_cederHalf _ s
  · exact orderly_handPart _ _ s
  · exact orderly_ownerHalf _ s
  · exact orderly_handPart _ _ s

/-! ### The holding lists -/

@[simp] theorem perPath_get_set {α : Type} (q : PerPath α) (p p' : Path) (x : α) :
    (q.set p x).get p' = if p' = p then x else q.get p' := by
  cases p <;> cases p' <;> rfl

/-- The lists of the axle former fit, with the holding list of each path named by it. -/
theorem formerFits_iff {f : Former} :
    FormerFits f ↔ (∀ p, (f.holding.get p).length ≤ holdingCap) ∧ f.merges.length ≤ mergeCap ∧
      f.halves.length ≤ halvesCap :=
  ⟨fun ⟨hl, hr, h⟩ => ⟨fun p => by cases p <;> assumption, h⟩, fun ⟨hp, h⟩ => ⟨hp .left, hp .right, h⟩⟩

theorem orderly_withHolding {s : State} {p : Path} {l : List HeldWheel}
    (h : (s.former.holding.get p).length ≤ holdingCap → l.length ≤ holdingCap) : Orderly s (withHolding s p l) := by
  refine orderly_withFormer fun hf => ?_
  obtain ⟨hp, hm, hh⟩ := formerFits_iff.1 hf
  refine formerFits_iff.2 ⟨fun p' => ?_, hm, hh⟩
  rw [perPath_get_set]
  split
  · exact h (hp p)
  · exact hp p'

@[simp] theorem merges_holding (s : State) (l : List MergeEntry) :
    (withMerges s l).former.holding = s.former.holding := rfl

@[simp] theorem changeMerge_holding (slot : Nat) (g : MergeEntry → MergeEntry) (s : State) :
    (changeMerge slot g s).former.holding = s.former.holding := rfl

@[simp] theorem freeMerge_holding (slot : Nat) (s : State) :
    (freeMerge slot s).former.holding = s.former.holding := rfl

@[simp] theorem addMerge_holding (e : MergeEntry) (s : State) :
    (addMerge e s).former.holding = s.former.holding := rfl

@[simp] theorem advanceRef_holding (r : Byte) (s : State) :
    (advanceRef r s).former.holding = s.former.holding := rfl

@[simp] theorem dropHalf_holding (sender ref : Byte) (s : State) :
    (dropHalf sender ref s).former.holding = s.former.holding := rfl

@[simp] theorem giveUpMerge_holding (e : MergeEntry) (s : State) :
    (giveUpMerge e s).former.holding = s.former.holding := by
  simp [giveUpMerge]

@[simp] theorem takeMerge_holding (e : MergeEntry) (h : PeerHalf) (s : State) :
    (takeMerge e h s).former.holding = s.former.holding := by
  unfold takeMerge
  dsimp only
  split <;> simp

@[simp] theorem takeLone_holding (w : WeighedHit) (s : State) :
    (takeLone w s).former.holding = s.former.holding := by
  unfold takeLone cederHalf ownerHalf
  dsimp only
  (repeat' split) <;> simp

@[simp] theorem withHolding_get (s : State) (p : Path) (l : List HeldWheel) :
    (withHolding s p l).former.holding.get p = l := by
  simp [withHolding]

theorem orderly_holdWheel (w : WeighedHit) (s : State) : Orderly s (holdWheel w s) := by
  unfold holdWheel
  dsimp only
  split
  · next hroom => exact orderly_withHolding fun _ => by simpa using hroom
  · next hfull =>
    split
    · next h rest hlist =>
      have hforced := (orderly_withHolding (s := s) (p := w.hit.path) (l := rest) (fun hle => by
        rw [hlist, List.length_cons] at hle; omega)).trans (orderly_takeLone h.wheel _)
      refine ⟨hforced.counters, hforced.pairer, hforced.weigh, fun hf => ?_, hforced.veh, hforced.link⟩
      have hrest : rest.length < holdingCap := by
        have hle := (formerFits_iff.1 hf).1 w.hit.path
        rw [hlist, List.length_cons] at hle
        omega
      exact (orderly_withHolding fun _ => by simpa using hrest).former (hforced.former hf)
    · next hnil => simp [hnil, holdingCap] at hfull

theorem takeFirst_length {α : Type} {p : α → Bool} {l rest : List α} {a : α} (h : takeFirst p l = some (a, rest)) :
    rest.length ≤ l.length := by
  obtain ⟨before, behind, rfl, rfl, -, -⟩ := takeFirst_some h
  simp

theorem orderly_receiveWheel (w : WeighedHit) (s : State) : Orderly s (receiveWheel w s) := by
  unfold receiveWheel
  split
  · split
    · next htake =>
      exact (orderly_withHolding (takeFirst_length htake).trans).trans (orderly_handAxle _ _)
    · exact orderly_holdWheel w s
  · exact .refl s

/-! ### Pairer and weigh unit -/

theorem orderly_beginWeighing (s : State) : Orderly s (beginWeighing s) := by
  unfold beginWeighing
  split
  · next hq => exact orderly_withWeigh fun h => by rw [hq, List.length_cons] at h; dsimp only; omega
  · exact .refl s

theorem orderly_handHit (h : WheelHit) (s : State) : Orderly s (handHit h s) := by
  unfold handHit
  split
  · next hroom =>
    exact (orderly_withWeigh fun _ => by simpa using hroom).trans (orderly_beginWeighing _)
  · exact ((orderly_bump _ s).trans (orderly_raise _ _)).trans (orderly_receiveWheel _ _)

theorem orderly_withAPending {s : State} {p : Path} {l : List PulseRec}
    (h : (s.pairer.get p).length ≤ pendingCap → l.length ≤ pendingCap) : Orderly s (withAPending s p l) := by
  refine orderly_withPairer fun ⟨hl, hr⟩ => ?_
  cases p
  · exact ⟨h hl, hr⟩
  · exact ⟨hl, h hr⟩

theorem walk_rest_length (d : Nat) (hb : HalfTick) (l : List PulseRec) : (walk d hb l).rest.length ≤ l.length := by
  induction l with
  | nil => exact le_rfl
  | cons a l ih =>
    unfold walk
    split
    · exact ih.trans (Nat.le_succ _)
    · exact le_rfl
    · exact Nat.le_succ _

theorem orderly_handA (r : PulseRec) (s : State) : Orderly s (handA r s) := by
  unfold handA
  dsimp only
  split
  · exact orderly_withAPending fun h => pushBounded_length _ _ _ h (by decide)
  · exact (orderly_bump _ s).trans (orderly_withAPending fun h => pushBounded_length _ _ _ h (by decide))

theorem orderly_handB (r : PulseRec) (s : State) : Orderly s (handB r s) := by
  unfold handB
  dsimp only
  have hwalk := (orderly_withAPending (s := s) (p := pathOf r.chan) (walk_rest_length s.setup.spacing r.centre _).trans).trans
    (orderly_bumpTimes .orphanA (walk s.setup.spacing r.centre (s.pairer.get (pathOf r.chan))).dropped _)
  split
  · exact hwalk.trans (orderly_handHit _ _)
  · exact hwalk.trans (orderly_bump _ _)

theorem orderly_handRecord (r : Option PulseRec) (s : State) : Orderly s (handRecord r s) := by
  unfold handRecord
  split
  · split
    · exact orderly_handA _ s
    · exact orderly_handB _ s
  · exact .refl s

/-! ### The end of an event, samples and reports -/

theorem orderly_startRun (before s : State) : Orderly s (startRun before s) := by
  unfold startRun
  split
  · exact orderly_withVeh id
  · exact .refl s

theorem orderly_endEvent (before s : State) : Orderly s (endEvent before s) :=
  (Orderly.of_frame (by simp) (by simp) (by simp) (by simp) (by simp) (by simp)).trans (orderly_startRun before _)

theorem orderly_takeChannel (u : Tick) (ch : Chan) (x : Sample) (s : State) : Orderly s (takeChannel u ch x s) :=
  Orderly.trans (Orderly.of_frame (by simp) (by simp) (by simp) (by simp) (by simp) (by simp))
    ((orderly_handRecord _ (s.withDet _)).trans (orderly_endEvent s _))

theorem orderly_takeSet (u : Tick) (x : Quad Sample) (s : State) : Orderly s (takeSet u x s) :=
  (((orderly_takeChannel _ _ _ s).trans (orderly_takeChannel _ _ _ _)).trans (orderly_takeChannel _ _ _ _)).trans
    (orderly_takeChannel _ _ _ _)

theorem orderly_offerTemperature (s : State) : Orderly s (offerTemperature s) := by
  have hoffer : Orderly s (offerPlain (temperatureFrame s) s).1 := orderly_offerPlain (isFresh_mkFrame ..) s
  unfold offerTemperature
  dsimp only
  split
  · exact hoffer.trans (.of_frame rfl rfl rfl rfl rfl rfl)
  · exact hoffer

theorem orderly_withCtl (s : State) (c : Control) : Orderly s (s.withCtl c) :=
  .of_frame rfl rfl rfl rfl rfl rfl

theorem orderly_scheduledReport (s : State) : Orderly s (scheduledReport s) := by
  unfold scheduledReport
  split_ifs
  · exact .refl s
  · exact (orderly_withCtl s _).trans (orderly_offerTemperature _)
  · exact orderly_withCtl s _

theorem orderly_laneClearStep (s : State) : Orderly s (laneClearStep s) := by
  unfold laneClearStep
  split
  · exact (orderly_offerPlain (isFresh_mkFrame ..) s).trans (orderly_withVeh id)
  · exact .refl s

theorem orderly_formBeacon (s : State) : Orderly s (formBeacon s) :=
  ((orderly_offerBeacon ⟨rfl, rfl, rfl⟩ s).trans (orderly_scheduledReport _)).trans (orderly_laneClearStep _)

theorem orderly_endSelftest (silent : Bool) (s : State) : Orderly s (endSelftest silent s) :=
  (((orderly_withCtl s _).trans (orderly_offerPlain (isFresh_mkFrame ..) _)).trans (orderly_formBeacon _)).trans
    (orderly_withCtl _ _)

theorem orderly_firstGoodSet (s : State) : Orderly s (firstGoodSet s) := by
  unfold firstGoodSet
  split
  · exact (orderly_endSelftest _ s).trans (orderly_endEvent _ _)
  · exact .refl s

end Sys2Proof.Machine

namespace Sys2Proof.Machine

open Sys2Proof

/-! ### Reception and commands -/

/-- A link that differs in nothing the link rules bound. -/
theorem orderly_sameFrames {s : State} {l : Link} (hrx : l.rxQueue = s.link.rxQueue) (hq : l.queue = s.link.queue)
    (himm : l.immediate = s.link.immediate) (hlfsr : l.lfsr = s.link.lfsr) : Orderly s (s.withLink l) :=
  orderly_withLink fun h => by rwa [LinkFits, sendingIn, hrx, hq, himm, hlfsr]

theorem orderly_withRxPath (s : State) (p : RxPath) : Orderly s (withRxPath s p) := orderly_sameFrames rfl rfl rfl rfl

theorem orderly_breakFrame (cause : BreakCause) (s : State) : Orderly s (breakFrame cause s) :=
  (orderly_withRxPath s _).trans (orderly_bump _ _)

theorem orderly_enqueueRx (f : RxFrame) (s : State) : Orderly s (enqueueRx f s) := by
  unfold enqueueRx
  split
  · next hroom => exact orderly_withLink fun ⟨_, h⟩ => ⟨by simpa using hroom, h⟩
  · exact (orderly_bump _ s).trans (orderly_raise _ _)

theorem orderly_judgeFrame (f : RxFrame) (crc : BitVec 16) (s : State) : Orderly s (judgeFrame f crc s) := by
  unfold judgeFrame
  split_ifs
  · exact orderly_bump _ s
  · exact .refl s
  · exact orderly_enqueueRx f s
  · exact .refl s

theorem orderly_taken {kind : Byte} {f : RxFrame} {rest : List RxFrame} {s : State} (h : AtFront kind f rest s) :
    Orderly s (taken rest s) := by
  obtain ⟨-, -, hq, -⟩ := h
  refine orderly_withLink fun ⟨hrx, hl⟩ => ⟨?_, hl⟩
  rw [hq, List.length_cons] at hrx
  exact (Nat.le_succ _).trans hrx

theorem orderly_sendReply (dst kind : Byte) (code : ReplyCode) (table : Byte) (s : State) :
    Orderly s (sendReply dst kind code table s) :=
  orderly_offerPlain (isFresh_mkFrame ..) s

theorem orderly_replyTo (f : RxFrame) (code : ReplyCode) (table : Byte) (s : State) :
    Orderly s (replyTo f code table s) := by
  unfold replyTo
  split
  · exact orderly_sendReply _ _ _ _ s
  · exact .refl s

theorem orderly_plainCommand {effect : State → State} {f : RxFrame} {s : State} (h : Orderly s (effect s)) :
    Orderly s (plainCommand effect f s) := by
  unfold plainCommand
  split
  · exact h.trans (orderly_replyTo _ _ _ _)
  · exact orderly_replyTo _ _ _ s

theorem orderly_memoryCommand {effect : RxFrame → State → State} {f : RxFrame} {s : State}
    (h : Orderly s (effect f s)) : Orderly s (memoryCommand effect f s) := by
  unfold memoryCommand
  split_ifs
  · exact orderly_replyTo _ _ _ s
  · exact h
  · exact .refl s

theorem orderly_withCal (s : State) (c : CalMemory) : Orderly s (s.withCal c) := .of_frame rfl rfl rfl rfl rfl rfl

theorem orderly_withScreenOn (s : State) (b : Bool) : Orderly s (s.withScreenOn b) := .of_frame rfl rfl rfl rfl rfl rfl

theorem orderly_withDet (s : State) (q : Quad Detector) : Orderly s (s.withDet q) := .of_frame rfl rfl rfl rfl rfl rfl

theorem orderly_withOutstanding (s : State) (x : Option Tick) : Orderly s (s.withOutstanding x) :=
  .of_frame rfl rfl rfl rfl rfl rfl

theorem orderly_withTick (s : State) (x : Tick) : Orderly s (s.withTick x) := .of_frame rfl rfl rfl rfl rfl rfl

theorem orderly_withPins (s : State) (x : Pins) : Orderly s (s.withPins x) := .of_frame rfl rfl rfl rfl rfl rfl

theorem orderly_withTemp (s : State) (x : TempUnit) : Orderly s (s.withTemp x) := .of_frame rfl rfl rfl rfl rfl rfl

theorem orderly_withPeers (s : State) (l : List Peer) : Orderly s (s.withPeers l) := .of_frame rfl rfl rfl rfl rfl rfl

theorem orderly_takeLock (f : RxFrame) (s : State) : Orderly s (takeLock f s) := by
  unfold takeLock
  split_ifs
  · exact orderly_replyTo _ _ _ s
  · exact orderly_replyTo _ _ _ s
  · exact orderly_replyTo _ _ _ s
  · exact orderly_replyTo _ _ _ s
  · exact (orderly_withCal s _).trans (orderly_replyTo _ _ _ _)

theorem orderly_takeErase (f : RxFrame) (s : State) : Orderly s (takeErase f s) := by
  unfold takeErase
  split_ifs
  · exact orderly_replyTo _ _ _ s
  · exact orderly_replyTo _ _ _ s
  · exact orderly_withCal s _

theorem orderly_takeScreen (f : RxFrame) (s : State) : Orderly s (takeScreen f s) := by
  unfold takeScreen
  split
  · split
    · exact orderly_replyTo _ _ _ s
    · exact (orderly_withScreenOn s _).trans (orderly_replyTo _ _ _ _)
  · exact orderly_replyTo _ _ _ s

theorem orderly_takeRezero (f : RxFrame) (s : State) : Orderly s (takeRezero f s) := by
  unfold takeRezero
  split
  · split
    · exact orderly_replyTo _ _ _ s
    · exact ((orderly_withDet s _).trans (orderly_replyTo _ _ _ _)).trans (orderly_endEvent s _)
  · exact orderly_replyTo _ _ _ s

theorem orderly_offerAll {l : List TxFrame} (h : ∀ f ∈ l, IsFresh f) (s : State) : Orderly s (offerAll l s) := by
  induction l generalizing s with
  | nil => exact .refl s
  | cons f l ih =>
    obtain ⟨hf, hl⟩ := List.forall_mem_cons.1 h
    unfold offerAll
    split
    · next hroom => exact (orderly_takePlace hf (by simpa [placeFree] using hroom)).trans (ih hl _)
    · exact (orderly_txDrop s).trans (ih hl _)

theorem isFresh_dataFrames {dst : Byte} {k start : Nat} {entries : List (List Byte)} :
    ∀ f ∈ dataFrames dst k start entries, IsFresh f := by
  intro f hf
  obtain ⟨e, -, rfl⟩ := List.mem_map.1 hf
  exact isFresh_mkFrame ..

theorem orderly_takeTableRead (f : RxFrame) (s : State) : Orderly s (takeTableRead f s) := by
  unfold takeTableRead
  split
  · split
    · unfold tableRead
      split
      · exact orderly_replyTo _ _ _ s
      · exact orderly_offerAll isFresh_dataFrames s
    · exact .refl s
  · exact orderly_replyTo _ _ _ s

theorem orderly_takeTableWrite (f : RxFrame) (s : State) : Orderly s (takeTableWrite f s) := by
  unfold takeTableWrite
  split
  · split
    · unfold tableWrite
      split
      · exact orderly_replyTo _ _ _ s
      · exact orderly_withCal s _
    · exact .refl s
  · exact orderly_replyTo _ _ _ s

theorem orderly_takeTableCut (f : RxFrame) (s : State) : Orderly s (takeTableCut f s) := by
  unfold takeTableCut
  split
  · split
    · unfold tableCut
      split
      · exact orderly_replyTo _ _ _ s
      · exact orderly_withCal s _
    · exact .refl s
  · exact orderly_replyTo _ _ _ s

theorem orderly_takeRestart (f : RxFrame) (s : State) : Orderly s (takeRestart f s) := by
  unfold takeRestart
  dsimp only
  split_ifs
  · exact (orderly_withCtl s _).trans (orderly_offerPlain ⟨rfl, rfl, rfl⟩ _)
  · exact orderly_withCtl s _
  · exact orderly_replyTo _ _ _ s

theorem orderly_takeBeacon (f : RxFrame) (s : State) : Orderly s (takeBeacon f s) := by
  unfold takeBeacon
  split_ifs
  · exact .refl s
  · exact orderly_raise _ s
  · exact orderly_withPeers s _
  · exact orderly_withPeers s _
  · split
    · exact orderly_withPeers s _
    · exact orderly_raise _ s

theorem orderly_rechoose (s : State) : Orderly s (rechoose s) := .of_frame rfl rfl rfl rfl rfl rfl

theorem orderly_completeChange (kind : Byte) (k : Nat) (change : Change) (source : Byte) (s : State) :
    Orderly s (completeChange kind k change source s) :=
  (orderly_withCal s _).trans (orderly_sendReply _ _ _ _ _)

/-! ### The merge frames -/

theorem orderly_endTaken (e : MergeEntry) (g : Axle → Axle) (s : State) : Orderly s (endTaken e g s) :=
  ((orderly_changeAxle e g s).trans (orderly_freeMerge _ _)).trans (orderly_leaveClosing _ _)

theorem orderly_enterHalf (h : PeerHalf) (s : State) : Orderly s (enterHalf h s) := by
  have hpush : ∀ t : State, t.former = s.former →
      Orderly t (t.withFormer { s.former with halves := pushBounded halvesCap s.former.halves h }) := fun t ht =>
    orderly_withFormer fun ⟨hl, hr, hm, hh⟩ => by
      rw [ht] at hl hr hm hh
      exact ⟨hl, hr, hm, pushBounded_length _ _ _ hh (by decide)⟩
  unfold enterHalf
  split
  · exact orderly_withFormer fun ⟨hl, hr, hm, hh⟩ => ⟨hl, hr, hm, by simpa [changeFirst_length] using hh⟩
  · dsimp only
    split
    · exact hpush s rfl
    · exact (orderly_bump _ s).trans (hpush _ rfl)

theorem orderly_takeHalfAxle (f : RxFrame) (s : State) : Orderly s (takeHalfAxle f s) := by
  unfold takeHalfAxle
  split
  · dsimp only
    split
    · exact (orderly_enterHalf _ s).trans (orderly_takeMerge _ _ _)
    · exact orderly_enterHalf _ s
  · exact orderly_bump _ s

theorem orderly_sendMerge (k : FrameKind) (dst r : Byte) (s : State) : Orderly s (sendMerge k dst r s) :=
  orderly_offerUrgent (isFresh_mkFrame ..) s

theorem orderly_takeTake (r partner : Byte) (s : State) : Orderly s (takeTake r partner s) := by
  unfold takeTake
  split
  · split
    · exact ((((orderly_changeMerge _ _ s).trans (orderly_removeAxle _ _)).trans (orderly_sendMerge _ _ _ _)).trans
        (orderly_bump _ _)).trans (orderly_leaveClosing _ _)
    · exact orderly_sendMerge _ _ _ s
  · exact (orderly_sendMerge _ _ _ s).trans (orderly_mergeConflict _)

theorem orderly_takeCede (r partner : Byte) (s : State) : Orderly s (takeCede r partner s) := by
  unfold takeCede
  split
  · exact orderly_endTaken _ _ s
  · exact orderly_mergeConflict s

theorem orderly_takeRefuse (r partner : Byte) (s : State) : Orderly s (takeRefuse r partner s) := by
  unfold takeRefuse
  split
  · exact (((orderly_moveAxle _ _ _ s).trans (orderly_freeMerge _ _)).trans (orderly_leaveClosing _ _)).trans
      (orderly_mergeConflict _)
  · exact orderly_mergeConflict s

theorem orderly_completeWeighing (w : Weighing) (s : State) : Orderly s (completeWeighing w s) :=
  ((orderly_withWeigh (w := { s.weigh with inFlight := none }) id).trans (orderly_receiveWheel _ _)).trans
    (orderly_beginWeighing _)

theorem orderly_withPresence (s : State) (p : Presence) : Orderly s (withPresence s p) := orderly_withVeh id

theorem orderly_presenceChange (level : LineLevel) (s : State) : Orderly s (presenceChange level s) := by
  unfold presenceChange
  split
  · dsimp only
    split
    · exact (orderly_withPresence s _).trans (orderly_endRun _)
    · exact orderly_withPresence s _
  · exact .refl s

theorem orderly_confirmVacancy (s : State) : Orderly s (confirmVacancy s) := by
  unfold confirmVacancy
  split
  · exact orderly_closeEntry _ _ s
  · exact .refl s

theorem orderly_strobeEffect (s : State) : Orderly s (strobeEffect s) := by
  have htick : Orderly s ((advanceTick s).withOutstanding (some (advanceTick s).tick)) :=
    ((orderly_withTick s (s.tick + 1)).trans
      (orderly_sameFrames rfl rfl rfl rfl : Orderly (s.withTick (s.tick + 1)) (advanceTick s))).trans
      (orderly_withOutstanding _ _)
  unfold strobeEffect
  split
  · exact htick.trans (orderly_takeSet _ _ _)
  · exact htick

/-! ### The frames that start, collide and leave -/

theorem not_sending_of_quiet {s : State} (h : lineQuiet s = true) :
    (∀ f ∈ s.link.immediate, f.sending = false) ∧ ∀ f ∈ s.link.queue, f.sending = false := by
  have ht : transmitting s = false := by
    simp only [lineQuiet, Bool.and_eq_true, Bool.not_eq_true'] at h
    exact h.1.2
  simp only [transmitting, Bool.or_eq_false_iff, List.any_eq_false, Bool.not_eq_true] at ht
  refine ⟨fun f hf => ?_, ht.2⟩
  rw [Option.mem_def] at hf
  simpa [hf] using ht.1

theorem countP_changeFirst_le {α : Type} (c p : α → Bool) (g : α → α) (l : List α) :
    (changeFirst p g l).countP c ≤ l.countP c + 1 := by
  rcases changeFirst_sublist_or p g l with hkeep | ⟨before, a, behind, hl, -, -, heq⟩
  · rw [hkeep]; exact Nat.le_succ _
  · rw [heq, hl]
    simp only [List.countP_append, List.countP_cons]
    split <;> omega

theorem mem_changeFirst {α : Type} {p : α → Bool} {g : α → α} {l : List α} {x : α} (h : x ∈ changeFirst p g l) :
    x ∈ l ∨ ∃ a ∈ l, p a = true ∧ x = g a := by
  rcases changeFirst_sublist_or p g l with hkeep | ⟨before, a, behind, hl, ha, -, heq⟩
  · exact .inl (hkeep ▸ h)
  · rw [heq] at h
    rw [hl]
    simp only [List.mem_append, List.mem_cons] at h ⊢
    rcases h with hb | rfl | hb
    · exact .inl (.inl hb)
    · exact .inr ⟨a, by simp, ha, rfl⟩
    · exact .inl (.inr (.inr hb))

/-- On a quiet line, where nothing is in transmission, the candidate may start. -/
theorem orderly_startCandidate {s : State} (hq : ∀ f ∈ s.link.queue, f.sending = false) : Orderly s (startCandidate s) := by
  have hzero : s.link.queue.countP TxFrame.sending = 0 := List.countP_eq_zero.2 fun f hf => by simp [hq f hf]
  unfold startCandidate
  dsimp only
  split
  · next f hf =>
    refine orderly_withLink fun ⟨hrx, hlen, hkind, _, hfit, hframes, hlfsr⟩ => ?_
    rw [hf] at hkind hfit
    exact ⟨hrx, hlen, by simpa [startedFrame] using hkind, by simp [sendingIn, startedFrame, hzero],
      by simpa [startedFrame, FrameFits] using hfit, hframes, hlfsr⟩
  · next hnone =>
    split
    · next r _ =>
      refine orderly_withLink fun ⟨hrx, hlen, _, _, _, hframes, hlfsr⟩ => ?_
      refine ⟨hrx, by simpa [changeFirst_length] using hlen, by simp [hnone], ?_, by simp [hnone], fun g hg => ?_, hlfsr⟩
      · have := countP_changeFirst_le TxFrame.sending (ofRank s.link r) (startedFrame s.tick) s.link.queue
        simp only [sendingIn, hnone, Option.toList_none, List.countP_nil]
        omega
      · rcases mem_changeFirst hg with hold | ⟨a, ha, -, rfl⟩
        · exact hframes g hold
        · exact hframes a ha
    · exact orderly_sameFrames rfl rfl rfl rfl

theorem orderly_removeSending (s : State) : Orderly s (removeSending s) := by
  unfold removeSending
  split
  · exact orderly_withLink fun ⟨hrx, hlen, _, hsend, _, hframes, hlfsr⟩ =>
      ⟨hrx, hlen, by simp, (Nat.add_le_add_right (by simp) _).trans hsend, by simp, hframes, hlfsr⟩
  · exact orderly_drop (dropFirst_sublist _ _)

theorem removeSending_immediate {s : State} (h : sendingImmediate s = true) :
    (removeSending s).link.immediate = none := by
  rw [removeSending, if_pos h]; rfl

theorem orderly_useFreedPlace {b : Bool} {s : State} (h : b = true → s.link.immediate = none) :
    Orderly s (useFreedPlace b s) := by
  unfold useFreedPlace
  split
  · next hb => exact orderly_refillImmediate (h hb)
  · exact orderly_offerReady s

theorem orderly_abandonFrame (f : TxFrame) (s : State) : Orderly s (abandonFrame f s) :=
  ((((orderly_removeSending s).trans (orderly_bump _ _)).trans (orderly_raise _ _)).trans
    (orderly_returnToReady f _)).trans (orderly_useFreedPlace fun h => by simpa [raise] using removeSending_immediate h)

/-! ### The backoff generator (R144) -/

/-- The bits of an advance: the register halved, and bit 15 the exclusive-or of bits 0, 2, 3 and 5. -/
theorem advanceLfsr_getLsbD (r : BitVec 16) (i : Nat) (hi : i < 16) :
    (advanceLfsr r).getLsbD i =
      if i = 15 then ((r.getLsbD 0 ^^ r.getLsbD 2) ^^ r.getLsbD 3) ^^ r.getLsbD 5 else r.getLsbD (i + 1) := by
  have htop : (0x8000#16).getLsbD i = decide (i = 15) := by interval_cases i <;> rfl
  unfold advanceLfsr
  dsimp only
  generalize (((r.getLsbD 0 ^^ r.getLsbD 2) ^^ r.getLsbD 3) ^^ r.getLsbD 5) = b
  by_cases h15 : i = 15
  · cases b with
    | true => subst h15; simp
    | false => simp [h15]
  · cases b with
    | true => simp [htop, h15, Nat.add_comm]
    | false => simp [h15, Nat.add_comm]

theorem advanceLfsr_ne_zero {r : BitVec 16} (h : r ≠ 0) : advanceLfsr r ≠ 0 := by
  intro hzero
  have hbit : ∀ i, i < 16 → (if i = 15 then ((r.getLsbD 0 ^^ r.getLsbD 2) ^^ r.getLsbD 3) ^^ r.getLsbD 5
      else r.getLsbD (i + 1)) = false := fun i hi => by
    rw [← advanceLfsr_getLsbD r i hi, hzero]; simp
  have hhigh : ∀ i, i < 15 → r.getLsbD (i + 1) = false := fun i hi => by
    simpa [hi.ne] using hbit i (by omega)
  refine h (BitVec.eq_of_getLsbD_eq fun i hi => ?_)
  rcases Nat.eq_zero_or_pos i with rfl | hpos
  · have htop := hbit 15 (by omega)
    rw [if_pos rfl, hhigh 1 (by omega), hhigh 2 (by omega), hhigh 4 (by omega)] at htop
    simpa using htop
  · simpa [Nat.sub_add_cancel hpos] using hhigh (i - 1) (by omega)

theorem drawOf_le (r : BitVec 16) (k : Nat) : drawOf r k ≤ 15 := by
  have hpow : 2 ^ min k 4 ≤ 2 ^ 4 := Nat.pow_le_pow_right (by omega) (Nat.min_le_right k 4)
  have := Nat.mod_lt r.toNat (Nat.two_pow_pos (min k 4))
  unfold drawOf
  omega

/-- The frame that is in transmission is kept with a new count below the limit and a draw in range. -/
theorem orderly_changeSending {g : TxFrame → TxFrame} {s : State}
    (hg : ∀ f, FrameFits (g f) ∧ (g f).sending = false ∧ (g f).kind = f.kind) : Orderly s (changeSending g s) := by
  unfold changeSending
  split
  · refine orderly_withLink fun ⟨hrx, hlen, hkind, hsend, _, hframes, hlfsr⟩ => ?_
    refine ⟨hrx, hlen, ?_, ?_, ?_, hframes, hlfsr⟩
    · simpa [(hg _).2.2] using hkind
    · refine (Nat.add_le_add_right ?_ _).trans hsend
      cases s.link.immediate <;> simp [(hg _).2.1]
    · simp only [Option.mem_def, Option.map_eq_some_iff]
      rintro f ⟨a, -, rfl⟩
      exact (hg a).1
  · exact orderly_withLink fun h => h.changeFirst fun f _ _ => ⟨(hg f).1, by simp [(hg f).2.1]⟩

theorem orderly_keepCollided {f : TxFrame} {s : State} (hc : ¬collisionLimit ≤ f.collisions + 1) :
    Orderly s (keepCollided f s) := by
  have hadvance : Orderly s (s.withLink { s.link with lfsr := advanceLfsr s.link.lfsr }) :=
    orderly_withLink fun ⟨hrx, hlen, hkind, hsend, hfit, hframes, hlfsr⟩ =>
      ⟨hrx, hlen, hkind, hsend, hfit, hframes, advanceLfsr_ne_zero hlfsr⟩
  unfold keepCollided
  dsimp only
  split
  · exact (hadvance.trans (orderly_removeSending _)).trans (orderly_offerReady _)
  · exact hadvance.trans (orderly_changeSending fun _ => ⟨⟨not_le.1 hc, drawOf_le _ _⟩, rfl, rfl⟩)

theorem orderly_vehicleSent (f : TxFrame) (s : State) : Orderly s (vehicleSent f s) := by
  unfold vehicleSent
  split
  · exact (orderly_freeVehicle _ s).trans (orderly_bump _ _)
  · exact .refl s

theorem orderly_clearNotices (l : List Notice) (s : State) : Orderly s (clearNotices l s) :=
  .of_frame rfl rfl rfl rfl rfl rfl

theorem orderly_completeFrame (f : TxFrame) (s : State) : Orderly s (completeFrame f s) :=
  ((((orderly_sameFrames (s := s) (l := completedLink s f) rfl rfl rfl rfl).trans (orderly_removeSending _)).trans
    (orderly_vehicleSent f _)).trans (orderly_clearNotices _ _)).trans
    (orderly_useFreedPlace fun h => by
      simpa using removeSending_immediate (s := s.withLink (completedLink s f)) h)

/-! ### Every command -/

theorem backoffSeed_toNat (station : BitVec 4) : (backoffSeed station).toNat = station.toNat * 4099 + 1 := by
  have := station.isLt
  rw [backoffSeed, BitVec.toNat_ofNat, Nat.mod_eq_of_lt (by omega)]

theorem orderly_startDone (x : Straps) (s : State) : Orderly s (enterSelftest (startWork x s)) := by
  refine ⟨.refl _, id, id, id, id, fun ⟨hrx, hlen, hkind, hsend, hfit, hframes, _⟩ =>
    ⟨hrx, hlen, hkind, hsend, hfit, hframes, fun h => ?_⟩⟩
  have hseed : (backoffSeed x.station).toNat = 0 := congrArg BitVec.toNat h
  rw [backoffSeed_toNat] at hseed
  omega

/-- Every command but a reset leaves the station in good order. -/
theorem Acts.orderly {s t : State} {c : Instr} (h : Acts s c t) (hc : isReset c = false) : Orderly s t := by
  cases h with
  | powerOn => cases hc
  | supplyLow => cases hc
  | resetLine => cases hc
  | linkRestart => cases hc
  | resetCauseEnd => exact .of_frame (by simp) (by simp) (by simp) (by simp) (by simp) (by simp)
  | startDone x => exact orderly_startDone x s
  | strobeInStart => exact orderly_withTick s _
  | strobe => exact orderly_strobeEffect s
  | goodSet =>
    exact ((orderly_withOutstanding s _).trans (orderly_takeSet _ _ _)).trans (orderly_firstGoodSet _)
  | badSet => exact (orderly_withOutstanding s _).trans (orderly_takeSet _ _ _)
  | selftestWaitExpiry =>
    exact ((orderly_withDet s _).trans (orderly_endSelftest _ _)).trans (orderly_endEvent s _)
  | weighingComplete => exact (orderly_completeWeighing _ s).trans (orderly_endEvent s _)
  | loneDeclaration htake =>
    exact ((orderly_withHolding (takeFirst_length htake).trans).trans (orderly_takeLone _ _)).trans
      (orderly_endEvent s _)
  | offeredExpires => exact (orderly_giveUpMerge _ s).trans (orderly_endEvent s _)
  | cededExpires => exact (orderly_freeMerge _ s).trans (orderly_endEvent s _)
  | ownerWaitExpiry => exact (orderly_giveUpMerge _ s).trans (orderly_endEvent s _)
  | confirmationWaitExpiry =>
    exact ((orderly_bump _ s).trans (orderly_endTaken _ _ _)).trans (orderly_endEvent s _)
  | peerHalfExpiry => exact orderly_dropHalf _ _ s
  | gapTimerExpiry => exact (orderly_closeEntry _ _ s).trans (orderly_endEvent s _)
  | presenceLineChange =>
    exact ((orderly_withPins s _).trans (orderly_presenceChange _ _)).trans (orderly_endEvent s _)
  | debounceExpiry =>
    exact ((orderly_withPresence s _).trans (orderly_confirmVacancy _)).trans (orderly_endEvent s _)
  | stuckExpiry => exact (orderly_withPresence s _).trans (orderly_endEvent s _)
  | probeReading => exact .of_frame (by simp) (by simp) (by simp) (by simp) (by simp) (by simp)
  | stalenessExpiry => exact .of_frame (by simp) (by simp) (by simp) (by simp) (by simp) (by simp)
  | freshnessExpiry => exact orderly_rechoose s
  | heldTimerExpiry => exact (orderly_withTemp s _).trans (orderly_rechoose _)
  | beaconTimerExpiry => exact (orderly_withCtl s _).trans (orderly_formBeacon _)
  | overLength => exact orderly_breakFrame _ s
  | frameComplete => exact (orderly_withRxPath s _).trans (orderly_judgeFrame _ _ _)
  | frameBroken => exact orderly_breakFrame _ s
  | startBitIdle => exact orderly_sameFrames rfl rfl rfl rfl
  | startBitQuiet => exact orderly_sameFrames rfl rfl rfl rfl
  | slotStarts hq =>
    exact (orderly_sameFrames (l := beginSlot s.link) rfl rfl rfl rfl).trans
      (orderly_startCandidate (not_sending_of_quiet hq).2)
  | slotPasses => exact orderly_sameFrames rfl rfl rfl rfl
  | abandons => exact (orderly_bump _ s).trans (orderly_abandonFrame _ _)
  | collides _ hlimit => exact (orderly_bump _ s).trans (orderly_keepCollided hlimit)
  | transmissionComplete => exact orderly_completeFrame _ s
  | malformedBeacon h => exact orderly_taken h
  | beaconReceived h => exact ((orderly_taken h).trans (orderly_takeBeacon _ _)).trans (orderly_rechoose _)
  | lossExpiry => exact orderly_withPeers s _
  | halfAxleReceived h => exact ((orderly_taken h).trans (orderly_takeHalfAxle _ _)).trans (orderly_endEvent s _)
  | mergeTakeReceived h => exact ((orderly_taken h).trans (orderly_takeTake _ _ _)).trans (orderly_endEvent s _)
  | malformedTake h => exact orderly_taken h
  | mergeCedeReceived h => exact ((orderly_taken h).trans (orderly_takeCede _ _ _)).trans (orderly_endEvent s _)
  | malformedCede h => exact orderly_taken h
  | mergeRefuseReceived h => exact ((orderly_taken h).trans (orderly_takeRefuse _ _ _)).trans (orderly_endEvent s _)
  | malformedRefuse h => exact orderly_taken h
  | hold h => exact (orderly_taken h).trans (orderly_plainCommand (orderly_sameFrames rfl rfl rfl rfl))
  | resume h => exact (orderly_taken h).trans (orderly_plainCommand (orderly_sameFrames rfl rfl rfl rfl))
  | holdTimerExpiry => exact orderly_sameFrames rfl rfl rfl rfl
  | tempRequest h => exact (orderly_taken h).trans (orderly_plainCommand (orderly_offerTemperature _))
  | screen h => exact (orderly_taken h).trans (orderly_takeScreen _ _)
  | rezero h => exact (orderly_taken h).trans (orderly_takeRezero _ _)
  | tableRead h => exact (orderly_taken h).trans (orderly_takeTableRead _ _)
  | tableWrite h => exact (orderly_taken h).trans (orderly_takeTableWrite _ _)
  | tableCut h => exact (orderly_taken h).trans (orderly_takeTableCut _ _)
  | lock h => exact (orderly_taken h).trans (orderly_memoryCommand (orderly_takeLock _ _))
  | erase h => exact (orderly_taken h).trans (orderly_memoryCommand (orderly_takeErase _ _))
  | restart h => exact (orderly_taken h).trans (orderly_takeRestart _ _)
  | writeComplete => exact orderly_completeChange _ _ _ _ s
  | cutComplete => exact orderly_completeChange _ _ _ _ s
  | eraseComplete => exact (orderly_withCal s _).trans (orderly_sendReply _ _ _ _ _)

/-- A reset that acts sets every counter to 0 (R186). -/
theorem Acts.counters_of_reset {s t : State} {c : Instr} (h : Acts s c t) (hc : isReset c = true) :
    t.counters = .zero := by
  cases h with
  | powerOn => rfl
  | supplyLow => rfl
  | resetLine => rfl
  | linkRestart => rfl
  | _ => cases hc

/-- Settles O8: what is in good order lets no counter fall, and a reset zeroes them. -/
theorem countersRiseUntilReset : Obligations.CountersRiseUntilReset := by
  unfold Obligations.CountersRiseUntilReset
  refine ⟨fun c s t hfit hc h => ?_, fun c s t hc h => ?_⟩
  · rcases exec_next_acts h with rfl | hacts
    · exact List.forall₂_refl _
    · exact ((hacts.orderly hc).counters hfit.1).1
  · refine (exec_next_acts h).imp_right fun hacts => ?_
    rw [hacts.counters_of_reset hc]
    decide

end Sys2Proof.Machine

namespace Sys2Proof.Machine

open Sys2Proof

/-! The invariant of the station (O3): what the good order leaves open is said of the probes' rings, the peer table, the memory
and the quiet of a station before SELFTEST. -/

/-! ### The rings of the probes (R45) -/

/-- A probe's ring is within its capacity. -/
def RingFits (p : Probe) : Prop := p.ring.length ≤ ringCap

/-- The rings of the probes are within their capacity. -/
def RingsFit (q : PerProbe Probe) : Prop := ∀ i, RingFits (q.get i)

theorem ringFits_goodReading {p : Probe} (h : RingFits p) (u : Tick) (v : Int) : RingFits (goodReading u v p) := by
  have hring : (goodReading u v p).ring = pushRing p.ring v := by
    unfold goodReading
    dsimp only
    (repeat' split) <;> rfl
  rw [RingFits, hring]
  exact pushBounded_length _ _ _ h (by decide)

theorem ringFits_badReading {p : Probe} (h : RingFits p) : RingFits (badReading p) := by
  have hring : (badReading p).ring = p.ring ∨ (badReading p).ring = [] := by
    unfold badReading
    dsimp only
    (repeat' split) <;> simp
  rcases hring with hkeep | hempty
  · rwa [RingFits, hkeep]
  · simp [RingFits, hempty]

@[simp] theorem choose_probes (u : TempUnit) (live : Option (Int × Source × Option Tick)) (now : Tick) (dflt : Int) :
    (choose u live now dflt).probes = u.probes := by
  unfold choose chosen
  (repeat' split) <;> rfl

@[simp] theorem rechoose_probes (s : State) : (rechoose s).temp.probes = s.temp.probes := by
  simp [rechoose]

@[simp] theorem changeProbe_probes (i : ProbeIx) (g : Probe → Probe) (s : State) :
    (changeProbe i g s).temp.probes = s.temp.probes.set i (g (s.temp.probes.get i)) := rfl

@[simp] theorem countReading_probes (s : State) : (countReading s).temp.probes = s.temp.probes := rfl

theorem RingsFit.set {q : PerProbe Probe} (h : RingsFit q) {i : ProbeIx} {p : Probe} (hp : RingFits p) :
    RingsFit (q.set i p) := by
  intro j
  rw [perProbe_get_set]
  split
  · exact hp
  · exact h j

theorem RingsFit.takeReading {i : ProbeIx} {ok : Bool} {v : Int} {s : State} (h : RingsFit s.temp.probes) :
    RingsFit (takeReading i ok v s).temp.probes := by
  unfold Machine.takeReading
  split
  · simpa using h.set (ringFits_badReading (h i))
  · simpa using h.set (ringFits_goodReading (h i) s.tick v)

theorem ringsFit_reset : RingsFit TempUnit.reset.probes := fun i => by cases i <;> simp [RingFits, TempUnit.reset,
  PerProbe.get, Probe.reset]

theorem ringsFit_start (u : Setup) : RingsFit (startTemp u).probes := by
  have hring : ∀ b, (startProbe b).ring = [] := fun b => by cases b <;> rfl
  intro i
  cases i <;> simp [RingFits, startTemp, PerProbe.get, hring]

theorem RingsFit.acts {s t : State} {c : Instr} (h : RingsFit s.temp.probes) (hacts : Acts s c t) :
    RingsFit t.temp.probes := by
  cases hacts with
  | powerOn => exact ringsFit_reset
  | supplyLow => exact ringsFit_reset
  | resetLine => exact ringsFit_reset
  | linkRestart => exact ringsFit_reset
  | startDone x => exact ringsFit_start _
  | probeReading => exact h.takeReading
  | @stalenessExpiry i => simpa using h.set (i := i) (p := { s.temp.probes.get i with state := .stale }) (h i)
  | _ => simpa using h

/-! ### The peer table (R122 to R126) -/

/-- The peer table of a station with that number is within its capacity and holds no number twice, nor the station's own. -/
def PeersFit (own : Byte) (l : List Peer) : Prop :=
  l.length ≤ peerCap ∧ (l.map Peer.station).Nodup ∧ ∀ p ∈ l, p.station ≠ own

@[simp] theorem updatePeer_station (p : Peer) (f : RxFrame) : (updatePeer p f).station = f.source := by
  unfold updatePeer
  split <;> rfl

theorem changeFirst_map_eq {α β : Type} {p : α → Bool} {g : α → α} {key : α → β} (l : List α)
    (h : ∀ a ∈ l, p a = true → key (g a) = key a) : (changeFirst p g l).map key = l.map key := by
  rcases changeFirst_sublist_or p g l with hkeep | ⟨before, a, behind, hl, ha, -, heq⟩
  · rw [hkeep]
  · rw [heq, hl]
    simp [h a (by simp [hl]) ha]

/-- An entry changed that keeps its station number. -/
theorem PeersFit.change {own : Byte} {l : List Peer} (h : PeersFit own l) {p : Peer → Bool} {g : Peer → Peer}
    (hg : ∀ a ∈ l, p a = true → (g a).station = a.station) : PeersFit own (changeFirst p g l) := by
  obtain ⟨hlen, hnodup, hown⟩ := h
  refine ⟨by rwa [changeFirst_length], by rwa [changeFirst_map_eq l hg], fun q hq => ?_⟩
  rcases mem_changeFirst hq with hold | ⟨a, ha, hp, rfl⟩
  · exact hown q hold
  · rw [hg a ha hp]; exact hown a ha

/-- A fold that at each element keeps what it holds or takes the element ends with an element. -/
theorem foldl_some_mem {α : Type} {step : Option α → α → Option α} (hstep : ∀ m a, step m a = m ∨ step m a = some a)
    (l : List α) : ∀ (m : Option α) (b : α), l.foldl step m = some b → b ∈ l ∨ m = some b := by
  induction l with
  | nil => intro m b h; exact .inr h
  | cons a l ih =>
    intro m b h
    rcases ih _ b h with hmem | hm
    · exact .inl (List.mem_cons_of_mem a hmem)
    · rcases hstep m a with hkeep | htake
      · exact .inr (hkeep ▸ hm)
      · exact .inl (by simp [Option.some.inj (htake.symm.trans hm)])

theorem not_any_peerIs {l : List Peer} {station : Byte} (h : l.any (peerIs station) = false) :
    ∀ p ∈ l, p.station ≠ station := by
  simpa [peerIs] using h

theorem PeersFit.takeBeacon {f : RxFrame} {s : State} (h : PeersFit (ownNumber s) s.peers) :
    PeersFit (ownNumber s) (takeBeacon f s).peers := by
  obtain ⟨hlen, hnodup, hown⟩ := id h
  unfold Machine.takeBeacon
  split_ifs with hbc hself hany hroom
  · exact h
  · simpa using h
  · refine h.change fun a _ ha => ?_
    simpa [peerIs, eq_comm] using ha
  · have hnew := not_any_peerIs (Bool.not_eq_true _ ▸ hany)
    refine ⟨by simpa using hroom, ?_, fun p hp => ?_⟩
    · rw [State.withPeers_peers, List.map_append, List.nodup_append]
      exact ⟨hnodup, by simp, by simpa [newPeer] using fun p hp => hnew p hp⟩
    · rcases List.mem_append.1 hp with hold | hlast
      · exact hown p hold
      · rw [List.mem_singleton.1 hlast]; exact hself
  · split
    · next q hq =>
      have hnew := not_any_peerIs (Bool.not_eq_true _ ▸ hany)
      rcases changeFirst_sublist_or (peerIs q.station) (fun _ => newPeer f) s.peers with
        hkeep | ⟨before, a, behind, hl, -, -, heq⟩
      · simpa [hkeep] using h
      · rw [State.withPeers_peers, heq]
        rw [hl] at hlen hnodup hown hnew
        refine ⟨by simpa using hlen, ?_, fun p hp => ?_⟩
        · rw [List.map_append, List.map_cons, List.nodup_middle, List.nodup_cons] at hnodup ⊢
          refine ⟨?_, hnodup.2⟩
          rw [← List.map_append]
          rintro hmem
          obtain ⟨p, hp, hstation⟩ := List.mem_map.1 hmem
          exact hnew p (List.mem_append.2 ((List.mem_append.1 hp).imp_right (List.mem_cons_of_mem a))) hstation
        · rcases List.mem_append.1 hp with hb | hb
          · exact hown p (by simp [hb])
          · rcases List.mem_cons.1 hb with rfl | hb
            · exact hself
            · exact hown p (by simp [hb])
    · simpa using h

theorem PeersFit.acts {s t : State} {c : Instr} (h : PeersFit (ownNumber s) s.peers)
    (hquiet : working s = false → s.peers = []) (hacts : Acts s c t) : PeersFit (ownNumber t) t.peers := by
  have hempty : ∀ own, PeersFit own [] := fun own => by simp [PeersFit]
  cases hacts with
  | powerOn => exact hempty _
  | supplyLow => exact hempty _
  | resetLine => exact hempty _
  | linkRestart => exact hempty _
  | startDone x hs => 
    have hnone : (enterSelftest (startWork x s)).peers = [] := hquiet (working_of_start hs)
    rw [hnone]; exact hempty _
  | lossExpiry => exact h.change fun _ _ _ => rfl
  | beaconReceived => simpa [ownNumber] using PeersFit.takeBeacon (s := taken _ s) (by simpa [ownNumber] using h)
  | _ => simpa [ownNumber] using h

/-! ### The memory and the supply-low count (R153, R161, R165, R180) -/

theorem MemorySound.acts {s t : State} {c : Instr} (h : MemorySound s) (hacts : Acts s c t) : MemorySound t := by
  obtain ⟨hlock, hlen⟩ := h
  have hcal := hacts.calActs
  unfold MemorySound
  generalize t.cal = m at hcal
  cases hcal with
  | keeps => exact ⟨hlock, hlen⟩
  | resets => exact ⟨fun _ => rfl, hlen⟩
  | starts =>
    refine ⟨fun _ => rfl, ?_⟩
    cases hm : s.cal.eraseMarker with
    | true => simp [startedCal_of_marker hm]
    | false => simp [startedCal_of_no_marker hm, hlen]
  | completes => exact ⟨fun _ => rfl, by simpa [completedCal] using hlen⟩
  | erases => exact ⟨fun _ => rfl, by simp [erased]⟩
  | locks ha => exact ⟨fun _ => notWriting_of_idle ha, hlen⟩
  | beginsErase => exact ⟨fun _ => rfl, hlen⟩
  | beginsChange _ _ hfree => exact ⟨fun hl => by simp [begunCal, hfree] at hl, by simpa [begunCal] using hlen⟩

theorem Acts.supplyLowCount_le {s t : State} {c : Instr} (h : s.ctl.supplyLowCount ≤ countMax) (hacts : Acts s c t) :
    t.ctl.supplyLowCount ≤ countMax := by
  cases hacts with
  | powerOn => exact Nat.zero_le _
  | supplyLow => exact satInc_le _
  | resetLine => exact h
  | linkRestart => exact h
  | _ => simpa using h

/-! ### The quiet of a station before SELFTEST -/

theorem quiet_resetBlocks (kind : ResetKind) (s : State) : Quiet (resetBlocks kind s) := by and_intros <;> rfl

/-- Every kind of reset leaves every block at its value after reset. -/
theorem Acts.quiet_of_reset {s t : State} {c : Instr} (h : Acts s c t) (hc : isReset c = true) : Quiet t := by
  cases h with
  | powerOn => exact quiet_resetBlocks .powerOn s
  | supplyLow => exact quiet_resetBlocks .supplyLow s
  | resetLine => exact quiet_resetBlocks .resetLine s
  | linkRestart => exact quiet_resetBlocks .linkRestart s
  | _ => cases hc

theorem quiet_endCause {s : State} (h : Quiet s) (cause : HeldCause) : Quiet (endCause cause s) := by
  cases cause <;> exact h

theorem quiet_leaveReset {s : State} (h : Quiet s) : Quiet (leaveReset s) := by
  rcases leaveReset_cases s with hkeep | ⟨kind, -, hstart⟩
  · rwa [hkeep]
  · rw [hstart]; exact h

theorem endEvent_of_not_working {before s : State} (h : working s = false) : endEvent before s = s := by
  cases hs : s.ctl.station <;> simp [working, hs] at h <;> simp [endEvent, endSettling, startRun, inRun, hs]

theorem presenceChange_none {level : LineLevel} {s : State} (h : s.veh.presence = none) : presenceChange level s = s := by
  simp [presenceChange, h]

/-- A command other than a reset that leaves a station not working finds it so, and leaves it quiet. -/
theorem QuietBeforeSelftest.acts {s t : State} {c : Instr} (h : QuietBeforeSelftest s) (hexec : exec c s = .next t)
    (hacts : Acts s c t) : QuietBeforeSelftest t := by
  intro hw
  by_cases hc : isReset c = true
  · exact hacts.quiet_of_reset hc
  have hws : working s = false := by
    by_cases hst : t.ctl.station = s.ctl.station
    · simpa [working, hst] using hw
    · rcases stationStatesFollowTheirTable c s t hexec hst with ⟨hr, -⟩ | ⟨⟨k, hk⟩, -, -⟩ | ⟨-, -, ht⟩ | ⟨-, -, ht⟩ | ⟨-, ht, -⟩
      · exact absurd hr hc
      · simp [working, hk]
      · simp [working, ht] at hw
      · rcases ht with ht | ⟨ht, -⟩ <;> simp [working, ht] at hw
      · simp [working, ht] at hw
  have hq := h hws
  by_cases ha : actsInStart c = false
  · rwa [hacts.quiet_keeps hws hq ha]
  cases hacts with
  | powerOn => exact absurd rfl hc
  | supplyLow => exact absurd rfl hc
  | resetLine => exact absurd rfl hc
  | linkRestart => exact absurd rfl hc
  | startDone => simp [working, enterSelftest] at hw
  | resetCauseEnd cause => exact quiet_leaveReset (quiet_endCause hq cause)
  | strobeInStart => exact hq
  | strobe hwork => simp [hws] at hwork
  | @presenceLineChange level =>
    obtain ⟨-, -, -, -, -, -, -, -, -, -, hveh, -⟩ := id hq
    have hpins : ∀ p, (s.withPins p).veh.presence = none := fun p => by simp [hveh, Assembler.reset]
    rw [presenceChange_none (hpins _), endEvent_of_not_working (by simpa [working] using hws)]
    exact hq
  | _ => exact absurd rfl ha

/-! ### The invariant -/

theorem sendingCount_eq (s : State) : sendingCount s = sendingIn s.link := by
  unfold sendingCount sendingIn sendingImmediate
  cases hi : s.link.immediate with
  | none => simp [List.countP_eq_length_filter]
  | some f => cases hf : f.sending <;> simp [hf, List.countP_eq_length_filter]

theorem openCount_eq (s : State) : openCount s = s.veh.entries.countP isOpen := by
  rw [List.countP_eq_length_filter]; rfl

/-- The invariant, by the conditions of the blocks. -/
theorem sound_iff (s : State) :
    Sound s ↔ (PairerFits s.pairer ∧ s.weigh.queue.length ≤ weighCap ∧ FormerFits s.former ∧ VehFits s.veh ∧
      LinkFits s.link) ∧ RingsFit s.temp.probes ∧ CountersFit s ∧ PeersFit (ownNumber s) s.peers ∧ MemorySound s ∧
        QuietBeforeSelftest s := by
  have hrings : RingsFit s.temp.probes ↔ s.temp.probes.p0.ring.length ≤ ringCap ∧ s.temp.probes.p1.ring.length ≤ ringCap :=
    ⟨fun h => ⟨h .p0, h .p1⟩, fun ⟨h0, h1⟩ i => by cases i; exacts [h0, h1]⟩
  have hheld : (∀ f ∈ heldFrames s, f.collisions < collisionLimit ∧ f.backoff ≤ 15) ↔
      (∀ f ∈ s.link.immediate, FrameFits f) ∧ ∀ f ∈ s.link.queue, FrameFits f :=
    ⟨fun h => ⟨fun f hf => h f (List.mem_append_left _ (Option.mem_toList.2 hf)),
        fun f hf => h f (List.mem_append_right _ hf)⟩,
      fun ⟨hi, hq⟩ f hf => (List.mem_append.1 hf).elim (fun hf => hi f (Option.mem_toList.1 hf)) (hq f)⟩
  unfold Sound WithinCapacity LinkSound PeersDistinct PairerFits FormerFits VehFits LinkFits PeersFit
  rw [hrings, hheld, sendingCount_eq, openCount_eq]
  tauto

theorem LinkFits.lfsr_ne_zero {l : Link} (h : LinkFits l) : l.lfsr ≠ 0 := by
  obtain ⟨-, -, -, -, -, -, hlfsr⟩ := h
  exact hlfsr

/-- A reset keeps the backoff register (assumption 10). -/
theorem Acts.lfsr_of_reset {s t : State} {c : Instr} (h : Acts s c t) (hc : isReset c = true) :
    t.link.lfsr = s.link.lfsr := by
  cases h with
  | powerOn => rfl
  | supplyLow => rfl
  | resetLine => rfl
  | linkRestart => rfl
  | _ => cases hc

theorem Quiet.blocksFit {t : State} (h : Quiet t) (hlfsr : t.link.lfsr ≠ 0) :
    PairerFits t.pairer ∧ t.weigh.queue.length ≤ weighCap ∧ FormerFits t.former ∧ VehFits t.veh ∧ LinkFits t.link := by
  obtain ⟨-, -, -, -, -, -, hpairer, hweigh, -, hformer, hveh, -, hlink, -⟩ := h
  generalize t.link.lfsr = r at hlfsr hlink
  rw [hpairer, hweigh, hformer, hveh, hlink]
  simp [PairerFits, FormerFits, Former.reset, VehFits, Assembler.reset, LinkFits, Link.reset, sendingIn]
  exact hlfsr

theorem counters_zero_fit : ∀ n ∈ Counters.zero.values, n ≤ countMax := by decide

theorem Sound.acts {s t : State} {c : Instr} (h : Sound s) (hexec : exec c s = .next t) (hacts : Acts s c t) : Sound t := by
  rw [sound_iff] at h ⊢
  obtain ⟨⟨hpairer, hweigh, hformer, hveh, hlink⟩, hrings, ⟨hcounters, hsupply⟩, hpeers, hmemory, hquiet⟩ := h
  have hnoPeers : working s = false → s.peers = [] := fun hw => by
    obtain ⟨-, -, -, -, -, -, -, -, -, -, -, hp, -⟩ := hquiet hw
    exact hp
  refine ⟨?_, hrings.acts hacts, ⟨?_, hacts.supplyLowCount_le hsupply⟩, hpeers.acts hnoPeers hacts, hmemory.acts hacts,
    hquiet.acts hexec hacts⟩
  · cases hc : isReset c with
    | false =>
      have ho := hacts.orderly hc
      exact ⟨ho.pairer hpairer, ho.weigh hweigh, ho.former hformer, ho.veh hveh, ho.link hlink⟩
    | true => exact (hacts.quiet_of_reset hc).blocksFit (hacts.lfsr_of_reset hc ▸ hlink.lfsr_ne_zero)
  · cases hc : isReset c with
    | false => exact ((hacts.orderly hc).counters hcounters).2
    | true => rw [hacts.counters_of_reset hc]; exact counters_zero_fit

/-- Settles O3: the good order of the blocks, the rings, the peer table, the memory and the quiet before SELFTEST are each kept
by every act. -/
theorem soundKeptByEveryStep : Obligations.SoundKeptByEveryStep := by
  unfold Obligations.SoundKeptByEveryStep
  intro s t h hstep
  rcases step_exec hstep with rfl | ⟨c, rest, hexec⟩
  · exact h
  · rcases exec_next_acts hexec with rfl | hacts
    · exact h
    · exact Sound.acts (s := s.withPending rest) h hexec hacts

end Sys2Proof.Machine

namespace Sys2Proof.Machine

open Sys2Proof

/-! Resets, the end of a cause and the end of START (O4, O13, O14, O15). -/

/-! ### Resets (R180, R184) -/

/-- Settles O4: the invariants are closed statements about one state. -/
theorem invariantsHoldAtReset : Obligations.InvariantsHoldAtReset := by
  unfold Obligations.InvariantsHoldAtReset
  refine ⟨⟨by decide, by decide, ⟨by decide, by decide, by decide, by decide⟩, by decide, by decide, ?_⟩, ?_, ?_⟩
  · intro _; decide
  · decide
  · exact ⟨by decide, quadInRange_reset⟩

/-- With every block at its value after reset, and no table that failed its check, TEMP_DEFAULT alone can be pending: it is so
once the station has left the reset. -/
theorem isPending_of_quiet {s : State} (h : Quiet s) (hfailed : s.cal.failed = []) (n : Notice) :
    isPending s n = (outOfReset s && decide (n = .tempDefault)) := by
  obtain ⟨-, -, -, -, hraised, hdet, -, -, htemp, -, hveh, hpeers, -⟩ := h
  have hprobe : probeFault s = false := by
    unfold probeFault
    rw [htemp]
    split
    · next i _ => cases i <;> rfl
    · rfl
  have hlane : laneConflict s = false := by simp [laneConflict, claimants, hpeers]
  cases n with
  | laneConflict => simpa [isPending] using hlane
  | probeFault => simpa [isPending] using hprobe
  | _ => simp [isPending, hfailed, hraised, Raised.none, hdet, Detector.inFault, Detector.reset, htemp, TempUnit.reset,
      hveh, Assembler.reset, hpeers]

theorem resetFrom_resetBlocks (kind : ResetKind) (s : State) : ResetFrom s (resetBlocks kind s) :=
  ⟨quiet_resetBlocks kind s, rfl, rfl, rfl, rfl, rfl, rfl, rfl, rfl⟩

theorem satInc_eq_min (n : Nat) : satInc n = min 65535 (n + 1) := by
  unfold satInc countMax
  split <;> omega

/-- Settles O13: the four resets set the blocks alike and differ in the supply-low count, the pins and the entry into
START. -/
theorem resetsClearEveryBlock : Obligations.ResetsClearEveryBlock := by
  unfold Obligations.ResetsClearEveryBlock
  refine ⟨fun s => ?_, fun s => ?_, fun s => ?_, fun s hpending hreply hwriting => ?_⟩
  · have hfrom : ResetFrom s (supplyFalls (withSupplyLow 0 (resetBlocks .powerOn s))) := resetFrom_resetBlocks .powerOn s
    exact ⟨_, rfl, rfl, rfl, rfl, rfl, hfrom, isPending_of_quiet hfrom.1 rfl⟩
  · have hfrom : ResetFrom s (supplyFalls (withSupplyLow (satInc s.ctl.supplyLowCount) (resetBlocks .supplyLow s))) :=
      resetFrom_resetBlocks .supplyLow s
    exact ⟨_, rfl, rfl, satInc_eq_min _, rfl, rfl, hfrom, isPending_of_quiet hfrom.1 rfl⟩
  · have hfrom : ResetFrom s ((resetBlocks .resetLine s).withPins { s.pins with resetAsserted := true }) :=
      resetFrom_resetBlocks .resetLine s
    exact ⟨_, rfl, rfl, rfl, rfl, rfl, hfrom, isPending_of_quiet hfrom.1 rfl⟩
  · have hdue : restartDue s = true := by simpa [restartDue, hpending, hwriting] using hreply
    have hfrom : ResetFrom s (enterStart .linkRestart (resetBlocks .linkRestart s)) := resetFrom_resetBlocks .linkRestart s
    exact ⟨_, if_pos hdue, rfl, rfl, rfl, rfl, rfl, hfrom, isPending_of_quiet hfrom.1 rfl⟩

/-- Settles O14, by the two causes and whether the other one lasts. -/
theorem lastCauseEndingEntersStart : Obligations.LastCauseEndingEntersStart := by
  unfold Obligations.LastCauseEndingEntersStart
  refine ⟨fun s kind hs hp => ?_, fun s kind hs hp => ?_, fun s kind hs hp => ?_, fun s kind hs hp => ?_⟩ <;>
    simp [exec, execResetCauseEnd, endCause, leaveReset, hs, hp, enterStart]

/-! ### The end of START (R154, R155, R158, R159, R166, R181) -/

theorem failedTables_blank {c : CalMemory} (h : c.tables = List.replicate 13 .blank) : failedTables c = [] := by
  have hblank : ∀ k, storedTable c k = .blank := fun k => by
    rw [storedTable, h, List.getD_eq_getElem?_getD, List.getElem?_replicate]
    split <;> rfl
  simp [failedTables, hblank, failsCheck, Stored.blank]

theorem mem_failedTables {c : CalMemory} {k : Nat} :
    k ∈ failedTables c ↔ k < 13 ∧ failsCheck k (storedTable c k) = true := by
  simp [failedTables]

/-- The check at start compares the tables that START leaves. -/
theorem mem_startedCal_failed {c : CalMemory} {k : Nat} :
    k ∈ (startedCal c).failed ↔ k < 13 ∧ failsCheck k (storedTable (startedCal c) k) = true := by
  cases hm : c.eraseMarker <;> simp [startedCal, hm, mem_failedTables, storedTable]

theorem startedCal_failed_of_marker {c : CalMemory} (h : c.eraseMarker = true) : (startedCal c).failed = [] := by
  simp only [startedCal, h, if_true]
  exact failedTables_blank rfl

/-- The working copies of tables 1 to 12 are each loaded from the entries of their table. -/
theorem loadAll_eq (c : CalMemory) :
    loadAll c =
      { gain := (tableEntries c 1).map gainOf, band := (tableEntries c 2).map bandOf
        temps := (tableEntries c 3).map tempPointOf, screen := (tableEntries c 4).head?.map screenOf
        pages := (List.range 8).map fun i => (tableEntries c (i + 5)).map (classOf (i + 1)) } := by
  simp [loadAll, List.range_succ, loadCopy, Working.absent, gapsOf, List.replicate]

theorem startProbe_state (b : Bool) : (startProbe b).state = if b then .waiting else .absent := by cases b <;> rfl

/-- Settles O15: what START sets is read from the tables that it leaves. -/
theorem startSetsStrapsTablesAndSettings : Obligations.StartSetsStrapsTablesAndSettings := by
  unfold Obligations.StartSetsStrapsTablesAndSettings
  intro x s hs
  have hexec : exec (.startDone x) s = .next (enterSelftest (startWork x s)) := if_pos hs
  generalize hc : startedCal s.cal = c
  have hworking : c.working = loadAll c := by rw [← hc]; rfl
  rw [loadAll_eq] at hworking
  refine ⟨_, hexec, rfl, rfl, rfl, rfl, rfl, startedCal_of_no_marker, fun hm => ?_, (startedCal_idle s.cal).2,
    (startedCal_idle s.cal).1, fun k => mem_startedCal_failed, rfl, ?_⟩
  · exact ⟨(startedCal_of_marker hm).1, (startedCal_of_marker hm).2, startedCal_failed_of_marker hm⟩
  have hcal : (enterSelftest (startWork x s)).cal = c := hc
  have hset : (enterSelftest (startWork x s)).setup = loadedSetup c := by rw [← hc]; rfl
  have htemp : (enterSelftest (startWork x s)).temp = startTemp (loadedSetup c) := by rw [← hc]; rfl
  have hveh : (enterSelftest (startWork x s)).veh.presence = startPresence (loadedSetup c) s.pins.line s.tick := by rw [← hc]; rfl
  rw [hcal, hset, htemp, hveh, hworking]
  refine ⟨rfl, rfl, rfl, rfl, fun n hlow hhigh => ?_, loadedSetup_absent, fun e rest => loadedSetup_present, rfl, rfl, rfl,
    rfl, rfl, fun i => ?_, fun hp => ?_, fun hp hl => ?_, fun hp hl => ?_, backoffSeed_toNat x.station, rfl, rfl, rfl,
    rfl, rfl, rfl, rfl, rfl⟩
  · obtain ⟨i, rfl⟩ := Nat.exists_eq_add_of_le hlow
    rw [Nat.add_sub_cancel_left]
    simp [List.getElem?_range (show i < 8 by omega), Nat.add_comm 2 i, Nat.add_comm i 1]
  · cases i <;> exact startProbe_state _
  · simp [startPresence, hp]
  · simp [startPresence, hp, hl]
  · simp [startPresence, hp, hl, after, stuckTime]

end Sys2Proof.Machine

namespace Sys2Proof.Machine

open Sys2Proof

/-! The link without what it holds for sending: which operations touch the transmit queue and the immediate slot alone. -/

/-- The link controller without the frames it holds for sending: receive path and queue, round, yield flag, hold, backoff
register and the bytes last sent. -/
def Link.line (l : Link) : Link := { l with immediate := none, queue := [] }

@[simp] theorem line_withQueue (l : Link) (q : List TxFrame) : Link.line { l with queue := q } = l.line := rfl

@[simp] theorem line_withImmediate (l : Link) (x : Option TxFrame) : Link.line { l with immediate := x } = l.line := rfl

@[simp] theorem line_withHeld (l : Link) (x : Option TxFrame) (q : List TxFrame) :
    Link.line { l with immediate := x, queue := q } = l.line := rfl

/-- Two links that agree on the line agree on each of its parts. -/
theorem line_parts {l m : Link} (h : l.line = m.line) :
    l.rxPath = m.rxPath ∧ l.rxQueue = m.rxQueue ∧ l.due = m.due ∧ l.round = m.round ∧ l.yieldFlag = m.yieldFlag ∧
      l.hold = m.hold ∧ l.lfsr = m.lfsr ∧ l.lastSent = m.lastSent := by
  simpa [Link.line] using h

theorem line_rxQueue {l m : Link} (h : l.line = m.line) : l.rxQueue = m.rxQueue := (line_parts h).2.1

theorem line_due {l m : Link} (h : l.line = m.line) : l.due = m.due := (line_parts h).2.2.1

theorem line_lfsr {l m : Link} (h : l.line = m.line) : l.lfsr = m.lfsr := by
  obtain ⟨-, -, -, -, -, -, hlfsr, -⟩ := line_parts h
  exact hlfsr

@[simp] theorem bump_line (k : Counter) (s : State) : (bump k s).link.line = s.link.line := rfl

@[simp] theorem bumpTimes_line (k : Counter) (n : Nat) (s : State) : (bumpTimes k n s).link.line = s.link.line := by simp

@[simp] theorem raise_line (n : Notice) (s : State) : (raise n s).link.line = s.link.line := rfl

@[simp] theorem txDrop_line (s : State) : (txDrop s).link.line = s.link.line := by simp [txDrop]

@[simp] theorem mergeFull_line (s : State) : (mergeFull s).link.line = s.link.line := by simp [mergeFull]

@[simp] theorem mergeConflict_line (s : State) : (mergeConflict s).link.line = s.link.line := by simp [mergeConflict]

@[simp] theorem withQueue_line (s : State) (q : List TxFrame) : (withQueue s q).link.line = s.link.line := rfl

@[simp] theorem withImmediate_line (s : State) (f : Option TxFrame) : (withImmediate s f).link.line = s.link.line := rfl

@[simp] theorem takePlace_line (f : TxFrame) (s : State) : (takePlace f s).link.line = s.link.line := rfl

@[simp] theorem offerPlain_line (f : TxFrame) (s : State) :
    ((offerPlain f s).1).link.line = s.link.line := by
  unfold offerPlain
  (repeat' split) <;> simp

@[simp] theorem offerBeacon_line (f : TxFrame) (s : State) :
    (offerBeacon f s).link.line = s.link.line := by
  unfold offerBeacon
  (repeat' split) <;> simp

@[simp] theorem offerUrgent_line (f : TxFrame) (s : State) :
    ((offerUrgent f s).1).link.line = s.link.line := by
  unfold offerUrgent
  (repeat' split) <;> simp

@[simp] theorem admitVehicle_line (v : Vehicle) (s : State) :
    (admitVehicle v s).link.line = s.link.line := by simp [admitVehicle]

@[simp] theorem offerList_line (l : List (BitVec 16)) (s : State) :
    (offerList l s).link.line = s.link.line := by
  induction l generalizing s with
  | nil => rfl
  | cons n l ih =>
    unfold offerList
    (repeat' split) <;> simp [ih]

@[simp] theorem offerReady_line (s : State) : (offerReady s).link.line = s.link.line := by simp [offerReady]

@[simp] theorem refillImmediate_line (s : State) :
    (refillImmediate s).link.line = s.link.line := by
  unfold refillImmediate
  (repeat' split) <;> simp

@[simp] theorem sendReply_line (dst kind : Byte) (code : ReplyCode) (table : Byte) (s : State) :
    (sendReply dst kind code table s).link.line = s.link.line := by simp [sendReply]

@[simp] theorem replyTo_line (f : RxFrame) (code : ReplyCode) (table : Byte) (s : State) :
    (replyTo f code table s).link.line = s.link.line := by
  unfold replyTo
  (repeat' split) <;> simp

@[simp] theorem offerOverload_line (f : TxFrame) (s : State) :
    ((offerOverload f s).1).link.line = s.link.line := by
  unfold offerOverload
  (repeat' split) <;> simp

@[simp] theorem classVehicle_line (v : Vehicle) (s : State) :
    (classVehicle v s).link.line = s.link.line := by
  unfold classVehicle
  simp only []
  (repeat' split) <;> simp

@[simp] theorem leaveClosing_line (number : BitVec 16) (s : State) :
    (leaveClosing number s).link.line = s.link.line := by
  unfold leaveClosing
  (repeat' split) <;> simp

@[simp] theorem closeEntry_line (number : BitVec 16) (cause : CloseCause) (s : State) :
    (closeEntry number cause s).link.line = s.link.line := by simp [closeEntry]

@[simp] theorem truncateEntry_line (number : BitVec 16) (s : State) :
    (truncateEntry number s).link.line = s.link.line := by simp [truncateEntry]

@[simp] theorem openVehicle_line (a : Axle) (lead : Option Nat) (s : State) :
    ((openVehicle a lead s).1).link.line = s.link.line := by
  unfold openVehicle
  split <;> simp

@[simp] theorem placeAxle_line (a : Axle) (s : State) :
    ((placeAxle a s).1).link.line = s.link.line := by
  unfold placeAxle
  (repeat' split) <;> simp

@[simp] theorem handAxle_line (a : Axle) (s : State) : ((handAxle a s).1).link.line = s.link.line := by simp [handAxle]

@[simp] theorem handPart_line (w : OwnWheel) (ref : Option Byte) (s : State) :
    (handPart w ref s).link.line = s.link.line := by simp [handPart]

@[simp] theorem giveUpMerge_line (e : MergeEntry) (s : State) :
    (giveUpMerge e s).link.line = s.link.line := by simp [giveUpMerge]

@[simp] theorem takeMerge_line (e : MergeEntry) (h : PeerHalf) (s : State) :
    (takeMerge e h s).link.line = s.link.line := by
  unfold takeMerge
  simp only []
  (repeat' split) <;> simp

@[simp] theorem endTaken_line (e : MergeEntry) (g : Axle → Axle) (s : State) :
    (endTaken e g s).link.line = s.link.line := by simp [endTaken]

@[simp] theorem cederHalf_line (w : OwnWheel) (s : State) :
    (cederHalf w s).link.line = s.link.line := by
  unfold cederHalf
  simp only []
  (repeat' split) <;> simp

@[simp] theorem ownerHalf_line (w : OwnWheel) (s : State) :
    (ownerHalf w s).link.line = s.link.line := by
  unfold ownerHalf
  simp only []
  (repeat' split) <;> simp

@[simp] theorem takeLone_line (w : WeighedHit) (s : State) :
    (takeLone w s).link.line = s.link.line := by
  unfold takeLone
  (repeat' split) <;> simp

@[simp] theorem holdWheel_line (w : WeighedHit) (s : State) :
    (holdWheel w s).link.line = s.link.line := by
  unfold holdWheel
  simp only []
  (repeat' split) <;> simp

@[simp] theorem receiveWheel_line (w : WeighedHit) (s : State) :
    (receiveWheel w s).link.line = s.link.line := by
  unfold receiveWheel
  (repeat' split) <;> simp

@[simp] theorem offerTemperature_line (s : State) :
    (offerTemperature s).link.line = s.link.line := by
  unfold offerTemperature
  simp only []
  (repeat' split) <;> simp

@[simp] theorem scheduledReport_line (s : State) :
    (scheduledReport s).link.line = s.link.line := by
  unfold scheduledReport
  (repeat' split) <;> simp

@[simp] theorem laneClearStep_line (s : State) :
    (laneClearStep s).link.line = s.link.line := by
  unfold laneClearStep
  (repeat' split) <;> simp

@[simp] theorem formBeacon_line (s : State) : (formBeacon s).link.line = s.link.line := by simp [formBeacon]

@[simp] theorem endSelftest_line (b : Bool) (s : State) : (endSelftest b s).link.line = s.link.line := by simp [endSelftest]

@[simp] theorem handHit_line (h : WheelHit) (s : State) :
    (handHit h s).link.line = s.link.line := by
  unfold handHit
  (repeat' split) <;> simp

@[simp] theorem handB_line (r : PulseRec) (s : State) :
    (handB r s).link.line = s.link.line := by
  unfold handB
  simp only []
  (repeat' split) <;> simp

@[simp] theorem handRecord_line (r : Option PulseRec) (s : State) :
    (handRecord r s).link.line = s.link.line := by
  unfold handRecord
  (repeat' split) <;> simp

@[simp] theorem takeChannel_line (u : Tick) (ch : Chan) (x : Sample) (s : State) :
    (takeChannel u ch x s).link.line = s.link.line := by simp [takeChannel]

@[simp] theorem takeSet_line (u : Tick) (x : Quad Sample) (s : State) :
    (takeSet u x s).link.line = s.link.line := by simp [takeSet]

@[simp] theorem completeWeighing_line (w : Weighing) (s : State) :
    (completeWeighing w s).link.line = s.link.line := by simp [completeWeighing]

@[simp] theorem firstGoodSet_line (s : State) :
    (firstGoodSet s).link.line = s.link.line := by
  unfold firstGoodSet
  (repeat' split) <;> simp

@[simp] theorem enterHalf_line (h : PeerHalf) (s : State) :
    (enterHalf h s).link.line = s.link.line := by
  unfold enterHalf
  (repeat' split) <;> simp

@[simp] theorem takeHalfAxle_line (f : RxFrame) (s : State) :
    (takeHalfAxle f s).link.line = s.link.line := by
  unfold takeHalfAxle
  simp only []
  (repeat' split) <;> simp

@[simp] theorem sendMerge_line (k : FrameKind) (dst r : Byte) (s : State) :
    (sendMerge k dst r s).link.line = s.link.line := by simp [sendMerge]

@[simp] theorem takeTake_line (r partner : Byte) (s : State) :
    (takeTake r partner s).link.line = s.link.line := by
  unfold takeTake
  (repeat' split) <;> simp

@[simp] theorem takeCede_line (r partner : Byte) (s : State) :
    (takeCede r partner s).link.line = s.link.line := by
  unfold takeCede
  (repeat' split) <;> simp

@[simp] theorem takeRefuse_line (r partner : Byte) (s : State) :
    (takeRefuse r partner s).link.line = s.link.line := by
  unfold takeRefuse
  (repeat' split) <;> simp

@[simp] theorem confirmVacancy_line (s : State) :
    (confirmVacancy s).link.line = s.link.line := by
  unfold confirmVacancy
  (repeat' split) <;> simp

@[simp] theorem takeBeacon_line (f : RxFrame) (s : State) :
    (takeBeacon f s).link.line = s.link.line := by
  unfold takeBeacon
  (repeat' split) <;> simp

@[simp] theorem removeSending_line (s : State) :
    (removeSending s).link.line = s.link.line := by
  unfold removeSending
  (repeat' split) <;> simp

@[simp] theorem useFreedPlace_line (b : Bool) (s : State) :
    (useFreedPlace b s).link.line = s.link.line := by
  unfold useFreedPlace
  (repeat' split) <;> simp

@[simp] theorem changeSending_line (g : TxFrame → TxFrame) (s : State) :
    (changeSending g s).link.line = s.link.line := by
  unfold changeSending
  (repeat' split) <;> simp

@[simp] theorem completeChange_line (kind : Byte) (t : Nat) (c : Change) (src : Byte) (s : State) :
    (completeChange kind t c src s).link.line = s.link.line := by simp [completeChange]

@[simp] theorem tableWrite_line (f : RxFrame) (t i : Nat) (e : List Byte) (s : State) :
    (tableWrite f t i e s).link.line = s.link.line := by
  unfold tableWrite
  (repeat' split) <;> simp

@[simp] theorem tableCut_line (f : RxFrame) (t n : Nat) (s : State) :
    (tableCut f t n s).link.line = s.link.line := by
  unfold tableCut
  (repeat' split) <;> simp

@[simp] theorem offerAll_line (l : List TxFrame) (s : State) :
    (offerAll l s).link.line = s.link.line := by
  induction l generalizing s with
  | nil => rfl
  | cons f l ih =>
    unfold offerAll
    split <;> simp [ih]

@[simp] theorem tableRead_line (f : RxFrame) (t i n : Nat) (s : State) :
    (tableRead f t i n s).link.line = s.link.line := by
  unfold tableRead
  (repeat' split) <;> simp

@[simp] theorem takeLock_line (f : RxFrame) (s : State) :
    (takeLock f s).link.line = s.link.line := by
  unfold takeLock
  (repeat' split) <;> simp

@[simp] theorem takeErase_line (f : RxFrame) (s : State) :
    (takeErase f s).link.line = s.link.line := by
  unfold takeErase
  (repeat' split) <;> simp

@[simp] theorem takeScreen_line (f : RxFrame) (s : State) :
    (takeScreen f s).link.line = s.link.line := by
  unfold takeScreen refuseField
  (repeat' split) <;> simp

@[simp] theorem takeRezero_line (f : RxFrame) (s : State) :
    (takeRezero f s).link.line = s.link.line := by
  unfold takeRezero refuseField
  (repeat' split) <;> simp

@[simp] theorem takeTableRead_line (f : RxFrame) (s : State) :
    (takeTableRead f s).link.line = s.link.line := by
  unfold takeTableRead refuseTable
  (repeat' split) <;> simp

@[simp] theorem takeTableWrite_line (f : RxFrame) (s : State) :
    (takeTableWrite f s).link.line = s.link.line := by
  unfold takeTableWrite refuseTable
  (repeat' split) <;> simp

@[simp] theorem takeTableCut_line (f : RxFrame) (s : State) :
    (takeTableCut f s).link.line = s.link.line := by
  unfold takeTableCut refuseTable
  (repeat' split) <;> simp

end Sys2Proof.Machine

namespace Sys2Proof.Machine

open Sys2Proof

/-! The tick and the sample port (O16, O17, O18). -/

/-! ### The four events of a set (R4, R101, R183) -/

theorem endEvent_endsWithTests {before s : State} (h : s.ctl.station = before.ctl.station) :
    EndsWithTests before (endEvent before s) := by
  refine ⟨fun hs => ?_, fun hs => ?_, endEvent_run before s⟩
  · rw [endEvent_station, h]; simp [hs]
  · rw [endEvent_station, h]; simp [hs]

theorem takeChannel_endsWithTests (u : Tick) (ch : Chan) (x : Sample) (s : State) :
    EndsWithTests s (takeChannel u ch x s) := endEvent_endsWithTests (by simp)

theorem takeSet_byChannels (u : Tick) (x : Quad Sample) (s : State) : ByChannels s (takeSet u x s) := by
  obtain ⟨h1, h2, h3, -⟩ := takeChannel_detectorsAt u x s
  exact ⟨_, _, _, takeChannel_endsWithTests .., takeChannel_endsWithTests .., takeChannel_endsWithTests ..,
    takeChannel_endsWithTests .., h1, h2, h3⟩

theorem laneClear_congr {s t : State} (h : t.veh = s.veh) : laneClear t = laneClear s := by simp [laneClear, h]

/-- The events of a set read the state, the lane and the detectors of the station they start from, and nothing else of it. -/
theorem ByChannels.of_start {r s t : State} (h : ByChannels r t) (hctl : r.ctl = s.ctl) (hveh : r.veh = s.veh)
    (hdet : r.det = s.det) : ByChannels s t := by
  obtain ⟨a, b, c, ha, hb, hc, ht, h1, h2, h3⟩ := h
  have hdets : ∀ k, detectorsAt r t k = detectorsAt s t k := fun k => by simp [detectorsAt, hdet]
  refine ⟨a, b, c, ?_, hb, hc, ht, h1.trans (hdets 1), h2.trans (hdets 2), h3.trans (hdets 3)⟩
  unfold EndsWithTests at ha ⊢
  rwa [laneClear_congr hveh, hctl] at ha

/-! ### The tick (R1, R2) -/

theorem exec_strobe_of_working {s : State} (h : working s = true) : exec .strobe s = .next (strobeEffect s) := by
  cases hs : s.ctl.station <;> simp [working, hs] at h <;> simp [exec, execStrobe, hs]

theorem strobeEffect_of_none {s : State} (h : s.outstanding = none) :
    strobeEffect s = (advanceTick s).withOutstanding (some (s.tick + 1)) := by
  simp [strobeEffect, h, advanceTick]

theorem strobeEffect_of_some {s : State} {u : Tick} (h : s.outstanding = some u) :
    strobeEffect s = takeSet u missingSet ((advanceTick s).withOutstanding (some (s.tick + 1))) := by
  simp [strobeEffect, h, advanceTick]

/-- What the declaration of a missing set leaves of a tick: the request, the receive queue and the delivery. -/
theorem strobeEffect_link (s : State) :
    (strobeEffect s).outstanding = some (s.tick + 1) ∧ (strobeEffect s).link.rxQueue = s.link.rxQueue ∧
      (strobeEffect s).link.due = (decide ((s.tick + 1).toNat % 2 = 0) && !s.link.rxQueue.isEmpty) := by
  cases h : s.outstanding with
  | none => rw [strobeEffect_of_none h]; exact ⟨rfl, rfl, rfl⟩
  | some u =>
    have hline := takeSet_line u missingSet ((advanceTick s).withOutstanding (some (s.tick + 1)))
    rw [strobeEffect_of_some h]
    exact ⟨by simp, (line_rxQueue hline).trans rfl, (line_due hline).trans rfl⟩

/-- Settles O16, by whether a request is outstanding. -/
theorem strobeRequestsTheNextSet : Obligations.StrobeRequestsTheNextSet := by
  unfold Obligations.StrobeRequestsTheNextSet
  refine ⟨fun s hw => ?_, fun s hs => by simp [exec, execStrobe, hs]⟩
  obtain ⟨hout, hrx, hdue⟩ := strobeEffect_link s
  refine ⟨_, exec_strobe_of_working hw, strobeEffect_tick s, hout, hdue, hrx, fun h => ?_, fun u h => ?_, ?_⟩
  · simp [strobeEffect_of_none h, advanceTick]
  · rw [strobeEffect_of_some h]
    exact ⟨by simp [missingSet, advanceTick], (takeSet_byChannels ..).of_start rfl rfl rfl⟩
  · simp

/-! ### The sample set (R2 to R5, R182) -/

/-- The set that passes its check is taken and, in SELFTEST, ends the self-test wait. -/
theorem exec_sampleSet_good {v0 v1 v2 v3 : BitVec 16} {tags check : Byte} {s : State} {u : Tick}
    (hout : s.outstanding = some u) (hpass : setPasses v0 v1 v2 v3 tags check = true) :
    exec (.sampleSet v0 v1 v2 v3 tags check) s =
      .next (firstGoodSet (takeSet u (goodSet s.setup v0 v1 v2 v3 tags) (s.withOutstanding none))) := by
  simp [exec, execSampleSet, hout, hpass]

theorem exec_sampleSet_bad {v0 v1 v2 v3 : BitVec 16} {tags check : Byte} {s : State} {u : Tick}
    (hout : s.outstanding = some u) (hfail : setPasses v0 v1 v2 v3 tags check = false) :
    exec (.sampleSet v0 v1 v2 v3 tags check) s = .next (takeSet u missingSet (s.withOutstanding none)) := by
  simp [exec, execSampleSet, hout, hfail]

theorem firstGoodSet_kept (s : State) :
    (firstGoodSet s).det = s.det ∧ (firstGoodSet s).outstanding = s.outstanding ∧ (firstGoodSet s).tick = s.tick ∧
    (firstGoodSet s).link.rxQueue = s.link.rxQueue := by
  refine ⟨?_, ?_, ?_, line_rxQueue (firstGoodSet_line s)⟩
  all_goals
    unfold firstGoodSet
    split <;> simp

/-- Settles O17, by whether the set passes, and whether it is the first good one. -/
theorem sampleSetReachesTheDetectors : Obligations.SampleSetReachesTheDetectors := by
  unfold Obligations.SampleSetReachesTheDetectors
  refine ⟨fun v0 v1 v2 v3 tags check s u hout => ?_, fun v0 v1 v2 v3 tags check s hout => by
    simp [exec, execSampleSet, hout]⟩
  have hby : ∀ x, ByChannels s (takeSet u x (s.withOutstanding none)) := fun x =>
    (takeSet_byChannels u x _).of_start rfl rfl rfl
  cases hpass : setPasses v0 v1 v2 v3 tags check with
  | false =>
    have hrx := line_rxQueue (takeSet_line u missingSet (s.withOutstanding none))
    refine ⟨_, exec_sampleSet_bad hout hpass, by simp, by simp, fun _ => by simp [missingSet], by simp, fun _ => hby _, ?_⟩
    rw [hrx]; simp
  | true =>
    generalize hx : goodSet s.setup v0 v1 v2 v3 tags = x
    obtain ⟨hdet, hkept, htick, hrx⟩ := firstGoodSet_kept (takeSet u x (s.withOutstanding none))
    refine ⟨_, hx ▸ exec_sampleSet_good hout hpass, by simp, fun _ => ?_, by simp, fun _ hs => ?_, fun h => ?_, ?_⟩
    · rw [hdet, ← hx]; simp [goodSet]
    · have hself := takeSet_selftest (u := u) (x := x) (s := s.withOutstanding none) hs
      rw [firstGoodSet_of_selftest hself]
      exact ⟨(endEvent_endSelftest_station _ _ _).imp_right And.left, by simp, by simp [after, beaconPeriod]⟩
    · have hother : s.ctl.station ≠ .selftest := by simpa using h
      rw [firstGoodSet_of_other (takeSet_not_selftest (by simpa using hother))]
      exact hby x
    · rw [htick, hrx, line_rxQueue (takeSet_line ..)]; simp

/-! ### The set check (R3, R168) -/

/-- The sum of bytes as a number is the sum of their numbers modulo 256. -/
theorem toNat_foldl_add (l : List Byte) : ∀ a : Byte,
    (l.foldl (· + ·) a).toNat = (a.toNat + (l.map BitVec.toNat).sum) % 256 := by
  induction l with
  | nil => intro a; simpa using (Nat.mod_eq_of_lt a.isLt).symm
  | cons b l ih => intro a; simp [ih, Nat.add_assoc]

theorem toNat_byteSum (l : List Byte) : (byteSum l).toNat = (l.map BitVec.toNat).sum % 256 := by
  simpa [byteSum] using toNat_foldl_add l 0

/-- Settles O18: the byte sum of the ten bytes, and the four high tag bits as a number. -/
theorem setCheckIsTheByteSum : Obligations.SetCheckIsTheByteSum := by
  unfold Obligations.SetCheckIsTheByteSum
  intro v0 v1 v2 v3 tags check
  have htags : fieldOf tags 4 4 = 0 ↔ tags.toNat < 16 := by
    have := tags.isLt
    unfold fieldOf
    omega
  have hsum : ∀ l : List Byte, byteSum l = 0 ↔ (l.map BitVec.toNat).sum % 256 = 0 := fun l => by
    rw [← toNat_byteSum, ← BitVec.toNat_inj]; rfl
  have hbytes : ∀ v : BitVec 16, (bytesOf 2 v.toNat).map BitVec.toNat = [v.toNat / 256, v.toNat % 256] := fun v => by
    have := v.isLt
    simp [bytesOf]
    omega
  unfold setPasses
  rw [Bool.and_eq_true, decide_eq_true_iff, decide_eq_true_iff, htags, hsum, and_comm]
  simp [hbytes, Nat.add_assoc]

end Sys2Proof.Machine

namespace Sys2Proof.Machine

open Sys2Proof

/-! The pulse detectors, one sample at a time (O19 to O22). -/

/-! ### One sample in each channel state -/

theorem takeSample_acquiring {d : Detector} (hs : d.state = .acquiring) (u : Setup) (ch : Chan) (now : Tick) (x : Int)
    (clip : Bool) : takeSample u ch now (.good x clip) d = (goodAcquiring u x clip { d with missing := 0 }, none) := by
  simp [takeSample, hs]

theorem takeSample_ready {d : Detector} (hs : d.state = .ready) (u : Setup) (ch : Chan) (now : Tick) (x : Int)
    (clip : Bool) : takeSample u ch now (.good x clip) d = (goodReady u now x clip { d with missing := 0 }, none) := by
  simp [takeSample, hs]

theorem takeSample_inPulse {d : Detector} {p : Pulse} (hs : d.state = .inPulse p) (u : Setup) (ch : Chan) (now : Tick)
    (x : Int) (clip : Bool) :
    takeSample u ch now (.good x clip) d = goodInPulse u ch now x clip p { d with missing := 0 } := by
  simp [takeSample, hs]

theorem takeSample_fault {d : Detector} (hs : d.state = .fault) (u : Setup) (ch : Chan) (now : Tick) (x : Int)
    (clip : Bool) : takeSample u ch now (.good x clip) d = (goodFault d, none) := by
  simp [takeSample, hs]

theorem takeSample_missing (u : Setup) (ch : Chan) (now : Tick) (d : Detector) :
    takeSample u ch now .missing d = missingSample ch d := rfl

/-- A missing sample below the eighth in a row is not the last. -/
theorem not_last {n : Nat} (h : n < 7) : decide (missingLimit ≤ n + 1) = false := by
  unfold missingLimit; exact decide_eq_false (by omega)

theorem missingSample_acquiring {ch : Chan} {d : Detector} (hs : d.state = .acquiring) (h : d.missing < 7) :
    missingSample ch d =
      ({ d with missing := d.missing + 1, settle := if d.base.isSome then 0 else d.settle }, none) := by
  cases hb : d.base <;> simp [missingSample, hs, not_last h, hb]

theorem missingSample_ready {ch : Chan} {d : Detector} (hs : d.state = .ready) (h : d.missing < 7) :
    missingSample ch d = ({ d with missing := d.missing + 1 }, none) := by
  simp [missingSample, hs, not_last h]

theorem missingSample_inPulse {ch : Chan} {d : Detector} {p : Pulse} (hs : d.state = .inPulse p) (h : d.missing < 7) :
    missingSample ch d = ({ d with missing := d.missing + 1, state := .inPulse { p with gapped := true } }, none) := by
  simp [missingSample, hs, not_last h]

/-! ### ACQUIRING (R6 to R10) -/

/-- Settles O19: the branches of a good sample, and the missing sample. -/
theorem acquiringTakesSamples : Obligations.AcquiringTakesSamples := by
  unfold Obligations.AcquiringTakesSamples
  intro u ch now d hs
  refine ⟨fun x hb => ?_, fun x hb => ?_, fun b x clip hb h => ?_, fun b x hb h hn => ?_, fun b x hb h hn => ?_, fun h => ?_⟩
  · simp [takeSample_acquiring hs, goodAcquiring, hb]
  · simp [takeSample_acquiring hs, goodAcquiring, hb]
  · rcases h with rfl | h
    · simp [takeSample_acquiring hs, goodAcquiring, hb]
    · simp [takeSample_acquiring hs, goodAcquiring, hb, corrected, h]
  · have hopen : ¬settleTarget ≤ d.settle + 1 := by simp only [settleTarget]; omega
    simp [takeSample_acquiring hs, goodAcquiring, hb, corrected, not_le.2 h, hopen, track, hs]
  · simp [takeSample_acquiring hs, goodAcquiring, hb, corrected, not_le.2 h, hn, settleTarget, track]
  · rw [takeSample_missing, missingSample_acquiring hs h]

/-! ### READY and IN_PULSE (R9, R13 to R18) -/

/-- The area of a pulse that is not saturated, kept between its limits (R14, R15). -/
theorem addArea_eq {p : Pulse} {c sum : Int} (hp : p.saturated = false) (hsum : sum = (p.area : Int) + p.tentative + c) :
    addArea p c = { p with
      area := (max 1 (min 2147483647 sum)).toNat, clipped := p.clipped || decide (2147483647 < sum)
      saturated := decide (2147483647 < sum) } := by
  have hcast : ((areaMax : Nat) : Int) = 2147483647 := rfl
  simp only [addArea, hp, ← hsum, hcast, Bool.false_eq_true, if_false]
  split_ifs with hover hlow
  · have harea : (max 1 (min 2147483647 sum)).toNat = 2147483647 := by rw [min_eq_left hover.le]; rfl
    simp [harea, hover, areaMax]
  · have harea : (max 1 (min 2147483647 sum)).toNat = 1 := by
      rw [min_eq_right (by omega), max_eq_left (by omega)]; rfl
    simp [harea, hover]
  · have harea : (max 1 (min 2147483647 sum)).toNat = sum.toNat := by
      rw [min_eq_right (by omega), max_eq_right (by omega)]
    simp [harea, hover]

theorem addArea_saturated {p : Pulse} (hp : p.saturated = true) (c : Int) : addArea p c = p := by simp [addArea, hp]

/-- A good sample at or above T_off in IN_PULSE. -/
theorem takeSample_above {u : Setup} {ch : Chan} {now : Tick} {x b : Int} {clip : Bool} {p : Pulse} {d : Detector}
    (hs : d.state = .inPulse p) (hb : d.base = some b) (h : (u.tOff : Int) ≤ corrected b x) :
    takeSample u ch now (.good x clip) d =
      ({ d with
          missing := 0
          state := .inPulse (pulseAbove u now (corrected b x) { p with clipped := p.clipped || clip }) }, none) := by
  simp [takeSample_inPulse hs, goodInPulse, hb, h]

/-- A good sample below T_off in IN_PULSE. -/
theorem takeSample_below {u : Setup} {ch : Chan} {now : Tick} {x b : Int} {clip : Bool} {p : Pulse} {d : Detector}
    (hs : d.state = .inPulse p) (hb : d.base = some b) (h : corrected b x < (u.tOff : Int)) :
    takeSample u ch now (.good x clip) d =
      if u.q ≤ p.below + 1 then
        (afterRelease { d with missing := 0 },
          some (recordOf ch (pulseBelow (corrected b x) { p with clipped := p.clipped || clip })))
      else
        ({ d with
            missing := 0
            state := .inPulse (pulseBelow (corrected b x) { p with clipped := p.clipped || clip }) }, none) := by
  simp [takeSample_inPulse hs, goodInPulse, hb, not_le.2 h]

/-- Settles O20: the onset in READY, and the two sides of T_off in IN_PULSE. -/
theorem pulseFromOnsetToRelease : Obligations.PulseFromOnsetToRelease := by
  unfold Obligations.PulseFromOnsetToRelease
  refine ⟨fun u ch now d b hs hb => ⟨fun x h => ?_, fun h => ?_, fun x clip h => ?_⟩, fun u ch now d b p hs hb =>
    ⟨fun x clip h hsat => ?_, fun x clip h hsat => ?_, fun x clip h hq => ?_, fun x clip h hq => ?_⟩⟩
  · constructor <;> simp [takeSample_ready hs, goodReady, hb, corrected, not_le.2 h, track]
  · rw [takeSample_missing, missingSample_ready hs h]
  · simp [takeSample_ready hs, goodReady, hb, corrected, h, startPulse]
  · have hadd := addArea_eq (p := { p with clipped := p.clipped || clip }) (c := corrected b x) hsat rfl
    rw [takeSample_above hs hb h, pulseAbove, hadd]
    rfl
  · have hadd := addArea_saturated (p := { p with clipped := p.clipped || clip }) hsat (corrected b x)
    rw [takeSample_above hs hb h, pulseAbove, hadd]
    rfl
  · rw [takeSample_below hs hb h, if_neg (by omega)]
    rfl
  · rw [takeSample_below hs hb h, if_pos hq]
    exact ⟨rfl, rfl⟩

/-! ### FAULT (R10, R11) -/

/-- Settles O21, by the state of the detector that misses a sample. -/
theorem faultComesAtEightAndEndsAtSixtyFour : Obligations.FaultComesAtEightAndEndsAtSixtyFour := by
  unfold Obligations.FaultComesAtEightAndEndsAtSixtyFour
  refine ⟨fun u ch now d hs h => ?_, fun u ch now d p hs h => missingSample_inPulse hs h, fun u ch now d h =>
    ⟨fun hs => missingSample_ready hs h, fun hs => missingSample_acquiring hs h⟩, fun u ch now d hs => ⟨?_, ?_, ?_⟩⟩
  · cases hst : d.state with
    | fault => exact absurd hst hs
    | acquiring => cases hb : d.base <;> simp [takeSample_missing, missingSample, hst, h, missingLimit, enterFault, hb]
    | ready => simp [takeSample_missing, missingSample, hst, h, missingLimit, enterFault]
    | inPulse p => simp [takeSample_missing, missingSample, hst, h, missingLimit, enterFault, recordOf]
  · simp [takeSample_missing, missingSample, hs]
  · intro x clip hg
    have hopen : ¬recoveryTarget ≤ d.good + 1 := by simp only [recoveryTarget]; omega
    simp [takeSample_fault hs, goodFault, hopen]
  · intro x clip hg
    simp [takeSample_fault hs, goodFault, hg, recoveryTarget, enterAcquiring]

/-! ### REZERO (R19, R177) -/

/-- The tests that end an event move the run count alone of the vehicle assembler. -/
@[simp] theorem endEvent_assembler (before s : State) :
    (endEvent before s).veh.entries = s.veh.entries ∧ (endEvent before s).veh.counter = s.veh.counter ∧
    (endEvent before s).veh.lastOpened = s.veh.lastOpened ∧
    (endEvent before s).veh.closingOrder = s.veh.closingOrder ∧
    (endEvent before s).veh.presence = s.veh.presence := by
  unfold endEvent startRun
  split <;> simp

/-- Settles O22: the command names its channels, and a restart by channel state. -/
theorem rezeroRestartsNamedChannels : Obligations.RezeroRestartsNamedChannels := by
  unfold Obligations.RezeroRestartsNamedChannels
  refine ⟨fun s f rest b hfront hroom hp hlow hhigh => ?_, fun d => ⟨fun hs => ?_, fun p hs => ?_, fun hs => ?_⟩⟩
  · have hb : rezeroMalformed b = false := by
      have hne : b ≠ 0 := by rintro rfl; exact absurd hlow (by decide)
      simpa [rezeroMalformed, hhigh] using hne
    have hexec : exec .rezero s = .next (takeRezero f (taken rest s)) := onCommand_front takeRezero hfront
    have htake : takeRezero f (taken rest s) =
        endEvent (taken rest s) (((taken rest s).withDet (rezeroed b s.det)).withLink
          { takenLink rest s with queue := answered f .done 255 s.link.queue }) := by
      simp only [takeRezero, hp, hb, Bool.false_eq_true, if_false]
      exact congrArg (endEvent _) (replyTo_room (s := (taken rest s).withDet _) hroom)
    refine ⟨_, hexec, ?_⟩
    rw [htake]
    simp [rezeroed, takenLink]
  · rcases hs with hs | hs <;> simp [rezeroDetector, hs, enterAcquiring]
  · simp [rezeroDetector, hs]
  · simp [rezeroDetector, hs]

end Sys2Proof.Machine

namespace Sys2Proof.Machine

open Sys2Proof

/-! The speed pairer and the weigh unit (O24, O25, O26, O28). -/

/-! ### The walk of a line-B record (R22, R24) -/

/-- A walk drops the leading records that are too old, and goes on with the rest. -/
theorem walk_tooOld {d : Nat} {hb : HalfTick} {old : List PulseRec} (l : List PulseRec)
    (h : ∀ x ∈ old, pairTest d x.centre hb = .tooOld) :
    walk d hb (old ++ l) = { walk d hb l with dropped := old.length + (walk d hb l).dropped } := by
  induction old with
  | nil => simp
  | cons x old ih =>
    rw [List.cons_append, walk, h x (by simp), ih fun y hy => h y (by simp [hy])]
    simp only [List.length_cons, Walk.mk.injEq, and_true]
    omega

theorem walk_tooFast {d : Nat} {hb : HalfTick} {a : PulseRec} (l : List PulseRec)
    (h : pairTest d a.centre hb = .tooFast) : walk d hb (a :: l) = ⟨0, none, a :: l⟩ := by simp [walk, h]

theorem walk_pairs {d : Nat} {hb : HalfTick} {a : PulseRec} {v : Nat} (l : List PulseRec)
    (h : pairTest d a.centre hb = .pairs v) : walk d hb (a :: l) = ⟨0, some (a, v), l⟩ := by simp [walk, h]

/-- A line-B record whose walk gives no pair is an orphan. -/
theorem handB_orphan {s : State} {r : PulseRec} {n : Nat} {l : List PulseRec}
    (h : walk s.setup.spacing r.centre (s.pairer.get (pathOf r.chan)) = ⟨n, none, l⟩) :
    handB r s = bump .orphanB (bumpTimes .orphanA n (s.withPairer (s.pairer.set (pathOf r.chan) l))) := by
  simp [handB, h, withAPending]

theorem handB_pairs {s : State} {r a : PulseRec} {n v : Nat} {l : List PulseRec}
    (h : walk s.setup.spacing r.centre (s.pairer.get (pathOf r.chan)) = ⟨n, some (a, v), l⟩) :
    handB r s = handHit ⟨pathOf r.chan, v, a, r⟩ (bumpTimes .orphanA n (s.withPairer (s.pairer.set (pathOf r.chan) l))) := by
  simp [handB, h, withAPending]

theorem handRecord_lineA {r : PulseRec} (h : onLineA r.chan = true) (s : State) : handRecord (some r) s = handA r s := by
  simp [handRecord, h]

theorem handRecord_lineB {r : PulseRec} (h : onLineA r.chan = false) (s : State) : handRecord (some r) s = handB r s := by
  simp [handRecord, h]

/-- A wheel hit waits behind a weighing in flight. -/
theorem handHit_waits {s : State} (h : WheelHit) (hroom : s.weigh.queue.length < 8)
    (hflight : s.weigh.inFlight.isSome = true) :
    handHit h s = s.withWeigh { s.weigh with queue := s.weigh.queue ++ [h] } := by
  obtain ⟨w, hw⟩ := Option.isSome_iff_exists.1 hflight
  simp [handHit, weighCap, hroom, beginWeighing, hw]

/-- Settles O24: a line-A record joins its list, a line-B record walks down it. -/
theorem pairerListsFollowTheWalk : Obligations.PairerListsFollowTheWalk := by
  unfold Obligations.PairerListsFollowTheWalk
  refine ⟨fun s r hA hroom => ?_, fun s r a l hA hl hfull => ?_, fun s r old hB hl hold => ?_,
    fun s r a old l hB hl hold hfast => ?_, fun s r a old l v hB hl hold hpair hroom hflight => ?_⟩
  · rw [handRecord_lineA hA]
    simp [handA, pendingCap, hroom, pushBounded, withAPending]
  · rw [handRecord_lineA hA]
    simp [handA, hl, pendingCap, hfull, pushBounded, withAPending]
  · have hwalk := walk_tooOld [] hold
    rw [handRecord_lineB hB, handB_orphan (n := old.length) (l := []) (by rw [hl]; simpa [walk] using hwalk)]
  · have hwalk := walk_tooOld (a :: l) hold
    rw [walk_tooFast l hfast] at hwalk
    rw [handRecord_lineB hB, handB_orphan (hl ▸ hwalk)]
    rfl
  · have hwalk := walk_tooOld (a :: l) hold
    rw [walk_pairs l hpair] at hwalk
    rw [handRecord_lineB hB, handB_pairs (hl ▸ hwalk), handHit_waits _ (by simpa using hroom) (by simpa using hflight)]
    simp

/-! ### The weigh queue (R27, R28, R30) -/

theorem newWeighing_limit (s : State) (h : WheelHit) :
    (∀ r, s.cal.working.screen = some r → (newWeighing s h).limit = r.limit) ∧
      (s.cal.working.screen = none → (newWeighing s h).limit = 25) :=
  ⟨fun r hr => by simp [newWeighing, hr], fun hn => by simp [newWeighing, hn, defaultLimit]⟩

/-- Settles O25, by the place in the queue and the weighing in flight. -/
theorem wheelHitsQueueOrBypass : Obligations.WheelHitsQueueOrBypass := by
  unfold Obligations.WheelHitsQueueOrBypass
  refine ⟨fun s h => handHit_waits h, fun s h hq hidle => ?_, fun s h hfull => ?_⟩
  · obtain ⟨hsome, hnone⟩ := newWeighing_limit s h
    refine ⟨newWeighing s h, ?_, rfl, rfl, rfl, rfl, rfl, rfl, rfl, rfl, hsome, hnone⟩
    simp [handHit, hq, hidle, weighCap, beginWeighing, newWeighing]
  · have hbypass : handHit h s = receiveWheel ⟨h, bypassOutcome⟩ (raise .queueLoss (bump .weighLoss s)) := by
      simp [handHit, hfull, weighCap]
    rw [hbypass]
    exact ⟨by simp, rfl⟩

/-! ### A weighing completes (R30, R60) -/

theorem receiveWheel_before_run {s : State} (h : s.ctl.station ≠ .run) (w : WeighedHit) : receiveWheel w s = s := by
  simp [receiveWheel, inRun, h]

/-- A wheel in RUN that pairs with none of the other path is held. -/
theorem receiveWheel_holds {s : State} {w : WeighedHit} (hrun : s.ctl.station = .run)
    (hnone : ∀ h ∈ s.former.holding.get (otherPath w.hit.path), wheelsPair w h = false) :
    receiveWheel w s = holdWheel w s := by
  simp [receiveWheel, inRun, hrun, takeFirst_none _ _ hnone]

theorem holdWheel_room {s : State} {w : WeighedHit} (h : (s.former.holding.get w.hit.path).length < 4) :
    holdWheel w s = withHolding s w.hit.path (s.former.holding.get w.hit.path ++ [heldWheel s.setup w]) := by
  simp [holdWheel, holdingCap, h]

@[simp] theorem beginWeighing_of_empty {s : State} (h : s.weigh.queue = []) : beginWeighing s = s := by
  unfold beginWeighing
  split
  · next hq => simp [h] at hq
  · rfl

theorem beginWeighing_of_idle {s : State} {h : WheelHit} {rest : List WheelHit} (hidle : s.weigh.inFlight = none)
    (hq : s.weigh.queue = h :: rest) : beginWeighing s = s.withWeigh ⟨rest, some (newWeighing s h)⟩ := by
  simp [beginWeighing, hidle, hq]

/-- Settles O26: the unit takes the next hit, and the wheel reaches the axle former. -/
theorem weighingCompletesAndTheNextBegins : Obligations.WeighingCompletesAndTheNextBegins := by
  unfold Obligations.WeighingCompletesAndTheNextBegins
  intro s w hw hlater
  have hexec : exec .weighingComplete s = .next (endEvent s (completeWeighing w s)) := by
    simp [exec, execWeighingComplete, hw, hlater]
  have hweigh : (receiveWheel ⟨w.hit, weighingOutcome w⟩ (s.withWeigh { s.weigh with inFlight := none })).weigh =
      { s.weigh with inFlight := none } := by simp
  refine ⟨_, hexec, fun hq => ?_, fun h rest hq => ?_, fun hrun => ?_, fun hrun hother hroom => ?_, by simp⟩
  · simp [completeWeighing, hq]
  · have hbegin := beginWeighing_of_idle (s := receiveWheel ⟨w.hit, weighingOutcome w⟩
      (s.withWeigh { s.weigh with inFlight := none })) (by rw [hweigh]) (by rw [hweigh, hq])
    simp only [endEvent_frame, completeWeighing, hbegin, State.withWeigh_weigh]
    obtain ⟨hsome, hnone⟩ := newWeighing_limit s h
    refine ⟨trivial, newWeighing s h, ?_, rfl, rfl, rfl, rfl, rfl, rfl, rfl, rfl, hsome, hnone⟩
    simp [newWeighing]
  · rw [completeWeighing, receiveWheel_before_run (by simpa using hrun)]
    simp
  · rw [completeWeighing, receiveWheel_holds (by simpa using hrun) (by simp [hother]),
      holdWheel_room (by simpa using hroom)]
    simp [withHolding, heldWheel, pairingWindow, windowMin, halfTicksPerSecond, after]

/-! ### The load of a weighing (R32 to R40) -/

theorem ite_three_over {α : Type} {n w1 w2 w3 : Nat} {x y : α} :
    (if n < w1 then x else if n < w2 then x else if n < w3 then x else y) =
      if n < w1 ∨ n < w2 ∨ n < w3 then x else y := by
  by_cases h1 : n < w1
  · rw [if_pos h1, if_pos (.inl h1)]
  · by_cases h2 : n < w2
    · rw [if_neg h1, if_pos h2, if_pos (.inr (.inl h2))]
    · simp only [h1, h2, if_false, false_or]

/-- The first step of an estimate: area by speed by gain over 2^32 (R32). -/
def firstStep (w : Weighing) (r : PulseRec) : Nat :=
  roundHalfUp (r.area * w.hit.speed * w.gain.getD (chanIndex r.chan) 0) 4294967296

/-- The second step: the band factor (R33). -/
def bandStep (w : Weighing) (n : Nat) : Nat := roundHalfUp (n * bandFactor w.band (recordSpeed w.hit.speed)) 1024

/-- The third step: the temperature factor (R34). -/
def tempStep (w : Weighing) (n : Nat) : Nat := roundHalfUp (n * (tempFactor w.temps w.temp).toNat) 1024

theorem estimate_eq (w : Weighing) (r : PulseRec) :
    estimate w r =
      if 65535 < firstStep w r then ⟨65535, true⟩
      else if 65535 < bandStep w (firstStep w r) then ⟨65535, true⟩
      else if 65535 < tempStep w (bandStep w (firstStep w r)) then ⟨65535, true⟩
      else ⟨tempStep w (bandStep w (firstStep w r)), r.clipped⟩ := by
  unfold estimate firstStep bandStep tempStep loadMax
  rfl

theorem firstStep_eq {w : Weighing} {r : PulseRec} {k : Nat} (hk : w.gain[chanIndex r.chan]? = some k) :
    firstStep w r = roundHalfUp (r.area * w.hit.speed * k) 4294967296 := by
  have hgain : w.gain.getD (chanIndex r.chan) 0 = k := by simp [List.getD_eq_getElem?_getD, hk]
  rw [firstStep, hgain]

/-- An estimate is held at 65,535, clipped, as soon as one of its three steps exceeds that (R35). -/
theorem estimate_steps {w : Weighing} {r : PulseRec} {w1 w2 w3 : Nat} (h1 : firstStep w r = w1) (h2 : bandStep w w1 = w2)
    (h3 : tempStep w w2 = w3) :
    estimate w r = if 65535 < w1 ∨ 65535 < w2 ∨ 65535 < w3 then ⟨65535, true⟩ else ⟨w3, r.clipped⟩ := by
  rw [estimate_eq, h1, h2, h3, ite_three_over]

theorem estimate_value_le (w : Weighing) (r : PulseRec) : (estimate w r).value ≤ 65535 := by
  rw [estimate_steps rfl rfl rfl]
  split
  · exact le_rfl
  · next h => exact not_lt.1 fun hover => h (.inr (.inr hover))

theorem bandFactor_skip {before : List (Nat × Nat)} {n : Nat} (h : ∀ x ∈ before, x.1 < n) (e : Nat × Nat)
    (behind : List (Nat × Nat)) : bandFactor (before ++ e :: behind) n = bandFactor (e :: behind) n := by
  induction before with
  | nil => rfl
  | cons x before ih =>
    have hx : ¬n ≤ x.1 := not_le.2 (h x (by simp))
    rw [← ih fun y hy => h y (by simp [hy])]
    cases before <;> simp [bandFactor, hx]

theorem bandFactor_first {e : Nat × Nat} {n : Nat} (h : n ≤ e.1) (behind : List (Nat × Nat)) :
    bandFactor (e :: behind) n = e.2 := by
  cases behind <;> simp [bandFactor, h]

theorem weighingOutcome_calibrated {w : Weighing} (h : w.calibrated = true) :
    (weighingOutcome w).load = (combine w.limit (estimateOf w w.hit.aPulse) (estimateOf w w.hit.bPulse)).load ∧
    (weighingOutcome w).clipped = (combine w.limit (estimateOf w w.hit.aPulse) (estimateOf w w.hit.bPulse)).clipped ∧
    (weighingOutcome w).disagree = (combine w.limit (estimateOf w w.hit.aPulse) (estimateOf w w.hit.bPulse)).disagree := by
  simp [weighingOutcome, h]

theorem weighingOutcome_uncalibrated {w : Weighing} (h : w.calibrated = false) :
    (weighingOutcome w).load = none ∧ (weighingOutcome w).clipped = false ∧ (weighingOutcome w).disagree = false := by
  simp [weighingOutcome, h]

theorem combine_load_le {limit : Nat} {a b : Option Estimate} (ha : ∀ e ∈ a, e.value ≤ 65535)
    (hb : ∀ e ∈ b, e.value ≤ 65535) : ∀ n ∈ (combine limit a b).load, n ≤ 65535 := by
  have hmean : ∀ m n, m ≤ 65535 → n ≤ 65535 → roundHalfUp (m + n) 2 ≤ 65535 := fun m n hm hn => by
    unfold roundHalfUp; omega
  cases a with
  | none => cases b with
    | none => simp [combine]
    | some b => simpa [combine] using hb
  | some a => cases b with
    | none => simpa [combine] using ha
    | some b =>
      have ha' : a.value ≤ 65535 := ha a rfl
      have hb' : b.value ≤ 65535 := hb b rfl
      cases hac : a.clipped <;> cases hbc : b.clipped <;> simp [combine, hac, hbc, ha', hb', hmean]

/-- CLIPPED and DISAGREE exclude each other, and neither stands without a load. -/
theorem combine_flags (limit : Nat) (a b : Option Estimate) :
    ((combine limit a b).disagree = true → (combine limit a b).clipped = false ∧ (combine limit a b).load ≠ none) ∧
      ((combine limit a b).clipped = true → (combine limit a b).load ≠ none) := by
  unfold combine
  split
  · (repeat' split) <;> simp
  all_goals simp

theorem combine_neither (limit : Nat) : combine limit none none = ⟨none, false, false⟩ := rfl

/-- One usable pulse gives its estimate and its mark. -/
theorem combine_one (limit : Nat) (e : Estimate) :
    ((combine limit (some e) none).load = some e.value ∧ (combine limit (some e) none).clipped = e.clipped ∧
      (combine limit (some e) none).disagree = false) ∧
    (combine limit none (some e)).load = some e.value ∧ (combine limit none (some e)).clipped = e.clipped ∧
      (combine limit none (some e)).disagree = false := ⟨⟨rfl, rfl, rfl⟩, rfl, rfl, rfl⟩

/-- Of one clipped and one clean estimate the clean one is the load, of two clipped ones the larger. -/
theorem combine_clipped {a b : Estimate} (limit : Nat) (h : a.clipped = true ∨ b.clipped = true) :
    combine limit (some a) (some b) =
      if a.clipped = true ∧ b.clipped = true then ⟨some (max a.value b.value), true, false⟩
      else if a.clipped = true then ⟨some b.value, false, false⟩ else ⟨some a.value, false, false⟩ := by
  cases ha : a.clipped <;> cases hb : b.clipped <;> simp_all [combine]

/-- Two clean estimates give their mean, and DISAGREE by the limit. -/
theorem combine_clean {a b : Estimate} (limit : Nat) (ha : a.clipped = false) (hb : b.clipped = false) :
    combine limit (some a) (some b) =
      ⟨some ((a.value + b.value + 1) / 2), false,
        decide (limit * ((a.value + b.value + 1) / 2) < ((a.value : Int) - b.value).natAbs * 100)⟩ := by
  have hmean : ∀ n, roundHalfUp n 2 = (n + 1) / 2 := fun n => by unfold roundHalfUp; omega
  simp [combine, ha, hb, disagrees, hmean]

theorem estimateOf_weighable {w : Weighing} {r : PulseRec} (h : weighable r = true) :
    estimateOf w r = some (estimate w r) := if_pos h

theorem estimateOf_unweighable {w : Weighing} {r : PulseRec} (h : weighable r = false) : estimateOf w r = none := by
  simp [estimateOf, h]

theorem estimateOf_le {w : Weighing} {r : PulseRec} : ∀ e ∈ estimateOf w r, e.value ≤ 65535 := by
  intro e he
  obtain ⟨-, rfl⟩ : weighable r = true ∧ estimate w r = e := by simpa [estimateOf] using he
  exact estimate_value_le w r

/-- Settles O28: the three steps, the band of a speed, and the kinds of the two pulses. -/
theorem wheelLoadAndFlags : Obligations.WheelLoadAndFlags := by
  unfold Obligations.WheelLoadAndFlags
  refine ⟨estimate_value_le, ?steps, ?band, ?flags, fun r => by simp [weighable], ?kinds⟩
  case steps =>
    rintro w r k w1 w2 w3 hk h1 h2 h3
    have hest := estimate_steps ((firstStep_eq hk).trans h1.symm) h2.symm h3.symm
    refine ⟨fun hover => hest.trans (if_pos hover), fun hw1 hw2 hw3 => hest.trans (if_neg ?_)⟩
    rintro (h | h | h)
    · exact absurd hw1 (not_le.2 h)
    · exact absurd hw2 (not_le.2 h)
    · exact absurd hw3 (not_le.2 h)
  case band =>
    intro before behind e n hbefore
    refine ⟨fun h => ?_, fun _ hnil => ?_⟩
    · rw [bandFactor_skip hbefore, bandFactor_first h]
    · rw [bandFactor_skip hbefore, hnil, bandFactor]
  case flags =>
    intro w
    refine ⟨fun n hn => ?_, by simp [weighingOutcome], rfl, rfl, rfl, fun h => ?_, fun h => ?_, weighingOutcome_uncalibrated⟩
    · cases hc : w.calibrated with
      | false => simp [weighingOutcome_uncalibrated hc] at hn
      | true =>
        rw [(weighingOutcome_calibrated hc).1] at hn
        exact ⟨combine_load_le estimateOf_le estimateOf_le n hn, rfl⟩
    · cases hc : w.calibrated with
      | false => simp [weighingOutcome_uncalibrated hc] at h
      | true =>
        rw [(weighingOutcome_calibrated hc).2.2] at h
        obtain ⟨hclip, hload⟩ := (combine_flags _ _ _).1 h
        simpa [weighingOutcome, hc, hclip, Option.isSome_iff_ne_none] using hload
    · cases hc : w.calibrated with
      | false => simp [weighingOutcome_uncalibrated hc] at h
      | true =>
        rw [(weighingOutcome_calibrated hc).2.1] at h
        simpa [weighingOutcome, hc, Option.isSome_iff_ne_none] using (combine_flags _ _ _).2 h
  case kinds =>
    intro w hc
    obtain ⟨hload, hclip, hdis⟩ := weighingOutcome_calibrated hc
    rw [hload, hclip, hdis]
    refine ⟨fun ha hb => ?_, fun ha hb => ?_, fun ha hb => ?_, fun ha hb hca hcb => ?_, fun ha hb hca hcb => ?_,
      fun ha hb hca hcb => ?_, fun ha hb hca hcb => ?_⟩
    · rw [estimateOf_unweighable ha, estimateOf_unweighable hb, combine_neither]
      exact ⟨rfl, rfl, rfl⟩
    · rw [estimateOf_weighable ha, estimateOf_unweighable hb]
      exact (combine_one _ _).1
    · rw [estimateOf_unweighable ha, estimateOf_weighable hb]
      exact (combine_one _ _).2
    · rw [estimateOf_weighable ha, estimateOf_weighable hb, combine_clipped _ (.inl hca), if_neg (by simp [hcb]), if_pos hca]
      exact ⟨rfl, rfl, rfl⟩
    · rw [estimateOf_weighable ha, estimateOf_weighable hb, combine_clipped _ (.inr hcb), if_neg (by simp [hca]),
        if_neg (by simp [hca])]
      exact ⟨rfl, rfl, rfl⟩
    · rw [estimateOf_weighable ha, estimateOf_weighable hb, combine_clipped _ (.inl hca), if_pos ⟨hca, hcb⟩]
      exact ⟨rfl, rfl, rfl⟩
    · rw [estimateOf_weighable ha, estimateOf_weighable hb, combine_clean _ hca hcb]
      exact ⟨rfl, rfl, decide_eq_true_iff⟩

end Sys2Proof.Machine

namespace Sys2Proof.Machine

open Sys2Proof

/-! The temperature unit (O29 to O31). -/

/-! ### The re-choice (R50 to R53, R56) -/

theorem rechoose_eq (s : State) : rechoose s = s.withTemp (choose s.temp (liveChoice s) s.tick s.setup.defaultTemp) := rfl

/-- What a live choice makes of the unit. -/
theorem choose_live (u : TempUnit) (v : Int) (x : Source) (fresh : Option Tick) (now : Tick) (dflt : Int) :
    choose u (some (v, x, fresh)) now dflt =
      { chosen u v x with held := some v, heldExpiry := none, freshExpiry := fresh } := rfl

/-- The unit without a live choice and with a held value. -/
theorem choose_held {u : TempUnit} {h : Int} (hheld : u.held = some h) (now : Tick) (dflt : Int) :
    choose u none now dflt =
      { chosen u h .held with
        heldExpiry := if isLive u.source then some (after now heldTime) else u.heldExpiry, freshExpiry := none } := by
  simp [choose, hheld]

theorem choose_default {u : TempUnit} (hheld : u.held = none) (now : Tick) (dflt : Int) :
    choose u none now dflt = { chosen u dflt .default with freshExpiry := none } := by
  simp [choose, hheld]

/-- Minimum and maximum follow the value that is chosen. -/
theorem choose_figures (u : TempUnit) (live : Option (Int × Source × Option Tick)) (now : Tick) (dflt : Int) :
    (choose u live now dflt).least = min u.least (choose u live now dflt).value ∧
      (choose u live now dflt).greatest = max u.greatest (choose u live now dflt).value := by
  unfold choose
  (repeat' split) <;> exact ⟨rfl, rfl⟩

theorem validValue_of_valid {p : Probe} (h : p.state = .valid) : validValue p = filtered p := if_pos h

theorem validValue_of_other {p : Probe} (h : p.state ≠ .valid) : validValue p = none := if_neg h

theorem liveChoice_probe {s : State} {i : ProbeIx} {f : Int} (hi : s.setup.weighing = some i)
    (hs : (s.temp.probes.get i).state = .valid) (hf : filtered (s.temp.probes.get i) = some f) :
    liveChoice s = some (f, .probe, none) := by
  simp [liveChoice, hi, validValue_of_valid hs, hf]

theorem liveChoice_altProbe {s : State} {i : ProbeIx} {f : Int} (hi : s.setup.weighing = some i)
    (hs : (s.temp.probes.get i).state ≠ .valid) (ho : (s.temp.probes.get (otherProbe i)).state = .valid)
    (hf : filtered (s.temp.probes.get (otherProbe i)) = some f) : liveChoice s = some (f, .altProbe, none) := by
  simp [liveChoice, hi, validValue_of_other hs, validValue_of_valid ho, hf]

/-- Without a VALID probe the fresh peers decide. -/
theorem liveChoice_peers {s : State} (h0 : s.temp.probes.p0.state ≠ .valid) (h1 : s.temp.probes.p1.state ≠ .valid) :
    liveChoice s =
      if (s.peers.filter (isFresh s)).isEmpty then none
      else some (meanInt ((s.peers.filter (isFresh s)).map Peer.temp), .peer,
        some (freshExpiryOf s.tick (s.peers.filter (isFresh s)))) := by
  have hnone : ∀ i, validValue (s.temp.probes.get i) = none := fun i => by
    cases i
    · exact validValue_of_other h0
    · exact validValue_of_other h1
  have hbind : ∀ g : ProbeIx → ProbeIx, (s.setup.weighing.bind fun i => validValue (s.temp.probes.get (g i))) = none :=
    fun g => by simp [hnone]
  simp only [liveChoice, hbind otherProbe, hbind fun i => i]

/-- A fold of maxima is the greatest of its values. -/
theorem foldl_max_spec {α : Type} (g : α → Int) (l : List α) : ∀ m : Int,
    (l.foldl (fun m q => max m (g q)) m = m ∨ ∃ q ∈ l, l.foldl (fun m q => max m (g q)) m = g q) ∧
      m ≤ l.foldl (fun m q => max m (g q)) m ∧ ∀ q ∈ l, g q ≤ l.foldl (fun m q => max m (g q)) m := by
  induction l with
  | nil => intro m; simp
  | cons a l ih =>
    intro m
    obtain ⟨hval, hle, hall⟩ := ih (max m (g a))
    simp only [List.foldl_cons, List.mem_cons]
    refine ⟨?_, (le_max_left _ _).trans hle, fun q hq => ?_⟩
    · rcases hval with hval | ⟨q, hq, hval⟩
      · rcases max_choice m (g a) with hmax | hmax
        · exact .inl (hval.trans hmax)
        · exact .inr ⟨a, .inl rfl, hval.trans hmax⟩
      · exact .inr ⟨q, .inr hq, hval⟩
    · rcases hq with rfl | hq
      · exact (le_max_right _ _).trans hle
      · exact hall q hq

/-- The greatest age of a list of peers is that of one of them. -/
theorem oldestAge_spec {now : Tick} {l : List Peer} (h : l ≠ []) :
    ∃ p ∈ l, oldestAge now l = sdiff now p.last ∧ ∀ x ∈ l, sdiff now x.last ≤ oldestAge now l := by
  obtain ⟨p, l, rfl⟩ := List.exists_cons_of_ne_nil h
  obtain ⟨hval, hle, hall⟩ := foldl_max_spec (fun q : Peer => sdiff now q.last) l (sdiff now p.last)
  have hbound : ∀ x ∈ p :: l, sdiff now x.last ≤ oldestAge now (p :: l) := fun x hx => by
    rcases List.mem_cons.1 hx with rfl | hx
    · exact hle
    · exact hall x hx
  rcases hval with hval | ⟨q, hq, hval⟩
  · exact ⟨p, by simp, hval, hbound⟩
  · exact ⟨q, by simp [hq], hval, hbound⟩

/-- The freshness expiry is counted from the last beacon of the peer of greatest age (assumption 32). -/
theorem freshExpiryOf_spec {now : Tick} {l : List Peer} (h : l ≠ []) :
    ∃ p ∈ l, (∀ x ∈ l, sdiff now x.last ≤ sdiff now p.last) ∧ freshExpiryOf now l = p.last + 24001 := by
  obtain ⟨p, hp, hage, hall⟩ := oldestAge_spec (now := now) h
  refine ⟨p, hp, fun x hx => hage ▸ hall x hx, ?_⟩
  have hback : now - BitVec.ofInt 32 (sdiff now p.last) = p.last := by
    rw [sdiff, BitVec.ofInt_toInt]; bv_omega
  rw [freshExpiryOf, hage, hback]
  rfl

/-- Settles O31, by the first source that applies. -/
theorem reChoiceTakesTheBestSource : Obligations.ReChoiceTakesTheBestSource := by
  unfold Obligations.ReChoiceTakesTheBestSource
  intro s
  rw [rechoose_eq, State.withTemp_temp]
  refine ⟨fun i f hi hs hf => ?probe, fun i f hi hs ho hf => ?altProbe, fun h0 h1 => ?_, (choose_figures _ _ _ _).1,
    (choose_figures _ _ _ _).2, choose_probes _ _ _ _, rfl⟩
  case probe =>
    rw [liveChoice_probe hi hs hf, choose_live]
    exact ⟨rfl, rfl, rfl, rfl, rfl⟩
  case altProbe =>
    rw [liveChoice_altProbe hi hs ho hf, choose_live]
    exact ⟨rfl, rfl, rfl, rfl, rfl⟩
  rw [liveChoice_peers h0 h1]
  have hnone : (∀ p ∈ s.peers, isFresh s p = false) → (s.peers.filter (isFresh s)).isEmpty = true := fun h => by
    simpa [List.filter_eq_nil_iff] using h
  refine ⟨fun ⟨p, hp, hfresh⟩ => ?peer, fun h v hheld => ?held, fun h hheld => ?default⟩
  case peer =>
    have hne : s.peers.filter (isFresh s) ≠ [] := List.ne_nil_of_mem (List.mem_filter.2 ⟨hp, hfresh⟩)
    obtain ⟨q, hq, holdest, hexpiry⟩ := freshExpiryOf_spec (now := s.tick) hne
    rw [if_neg (by simpa using hne), choose_live]
    obtain ⟨hmem, hqf⟩ := List.mem_filter.1 hq
    exact ⟨rfl, rfl, rfl, rfl, q, hmem, hqf, fun x hx hxf => holdest x (List.mem_filter.2 ⟨hx, hxf⟩), congrArg some hexpiry⟩
  case held =>
    rw [if_pos (hnone h), choose_held hheld]
    exact ⟨rfl, rfl, hheld, rfl, fun hl => if_pos hl, fun hl => if_neg (by simp [hl])⟩
  case default =>
    rw [if_pos (hnone h), choose_default hheld]
    exact ⟨rfl, rfl, hheld, rfl⟩

/-! ### Readings (R41 to R49) -/

@[simp] theorem otherProbe_ne (i : ProbeIx) : otherProbe i ≠ i := by cases i <;> decide

theorem readingBad_iff (p : Probe) (ok : Bool) (v : Int) :
    readingBad p ok v = true ↔
      ok = false ∨ v < -400 ∨ 800 < v ∨ (p.state = .valid ∧ ∃ f, filtered p = some f ∧ 50 < (v - f).natAbs) := by
  have hrange : tempInRange v = false ↔ v < -400 ∨ 800 < v := by
    rw [← Bool.not_eq_true, tempInRange_iff]; omega
  have hdeviates : ((filtered p).map fun f => decide (deviationMax < (v - f).natAbs)).getD false = true ↔
      ∃ f, filtered p = some f ∧ 50 < (v - f).natAbs := by
    cases filtered p with
    | none => simp
    | some f =>
      have hmax : deviationMax < (v - f).natAbs ↔ 50 < (v - f).natAbs := Iff.rfl
      simpa using hmax
  unfold readingBad
  rw [Bool.or_eq_true, Bool.or_eq_true, Bool.not_eq_true', Bool.not_eq_true', hrange, Bool.and_eq_true, hdeviates,
    decide_eq_true_iff]
  tauto

theorem pushRing_eq (ring : List Int) (v : Int) :
    pushRing ring v = if ring.length < 8 then ring ++ [v] else ring.drop 1 ++ [v] := rfl

theorem pushRing_filled (ring : List Int) (v : Int) : 4 ≤ (pushRing ring v).length ↔ 3 ≤ ring.length := by
  rw [pushRing_eq]
  split
  · simp
  · simp; omega

/-- What a good reading leaves whatever the state of the probe. -/
theorem goodReading_kept (now : Tick) (v : Int) (p : Probe) :
    (goodReading now v p).lastGood = some now ∧ (goodReading now v p).bad = 0 ∧
      (goodReading now v p).ring = pushRing p.ring v := by
  unfold goodReading
  dsimp only
  (repeat' split) <;> exact ⟨rfl, rfl, rfl⟩

theorem goodReading_valid (now : Tick) (v : Int) (p : Probe) :
    (goodReading now v p).state = .valid ↔
      p.state = .valid ∨ p.state = .stale ∨ (p.state = .waiting ∧ 3 ≤ p.ring.length) ∨ (p.state = .fault ∧ 7 ≤ p.good) := by
  cases hs : p.state with
  | waiting =>
    by_cases hfull : 3 ≤ p.ring.length
    · simp [goodReading, hs, waitingTarget, pushRing_filled, hfull]
    · simp [goodReading, hs, waitingTarget, pushRing_filled, hfull]
  | fault =>
    have hcount : probeRecovery ≤ min probeRecovery (p.good + 1) ↔ 7 ≤ p.good := by unfold probeRecovery; omega
    by_cases hfull : 7 ≤ p.good
    · simp only [goodReading, hs, hcount, if_pos hfull]; simp [hfull]
    · simp only [goodReading, hs, hcount, if_neg hfull]; simp [hfull]
  | valid => simp [goodReading, hs]
  | stale => simp [goodReading, hs]
  | absent => simp [goodReading, hs]

theorem badReading_running {p : Probe} (h : p.state = .valid ∨ p.state = .stale) :
    badReading p =
      if 2 ≤ p.bad then { p with state := .fault, ring := [], bad := 0, good := 0 }
      else { p with bad := p.bad + 1, good := 0 } := by
  have hcount : badLimit ≤ min badLimit (p.bad + 1) ↔ 2 ≤ p.bad := by unfold badLimit; omega
  have hstate : badReading p =
      if badLimit ≤ min badLimit (p.bad + 1) then { p with state := .fault, ring := [], bad := 0, good := 0 }
      else { p with bad := min badLimit (p.bad + 1), good := 0 } := by
    rcases h with h | h <;> simp [badReading, h]
  rw [hstate]
  simp only [hcount]
  split
  · rfl
  · next hlow => rw [show min badLimit (p.bad + 1) = p.bad + 1 by unfold badLimit; omega]

theorem takeReading_bad {i : ProbeIx} {ok : Bool} {v : Int} {s : State}
    (h : readingBad (s.temp.probes.get i) ok v = true) :
    takeReading i ok v s = rechoose (changeProbe i badReading s) := if_pos h

theorem takeReading_good {i : ProbeIx} {ok : Bool} {v : Int} {s : State}
    (h : readingBad (s.temp.probes.get i) ok v = false) :
    takeReading i ok v s = rechoose (countReading (changeProbe i (goodReading s.tick v) s)) := by
  simp [takeReading, h]

@[simp] theorem choose_goodReadings (u : TempUnit) (live : Option (Int × Source × Option Tick)) (now : Tick) (dflt : Int) :
    (choose u live now dflt).goodReadings = u.goodReadings := by
  unfold choose chosen
  (repeat' split) <;> rfl

@[simp] theorem rechoose_goodReadings (s : State) : (rechoose s).temp.goodReadings = s.temp.goodReadings := by
  simp [rechoose]

/-- Settles O29: a reading is refused, or changes its probe by the bad or the good rule. -/
theorem probeReadingsMoveTheirProbe : Obligations.ProbeReadingsMoveTheirProbe := by
  unfold Obligations.ProbeReadingsMoveTheirProbe
  refine ⟨fun head value check s h => ?refused, fun head value check s hw hpass hs => ?taken, readingBad_iff,
    fun now v p => ?rules⟩
  case refused =>
    rcases h with h | h <;> simp [exec, execProbeReading, h]
  case taken =>
    have hexec : exec (.probeReading head value check) s =
        .next (takeReading (readingProbe head) (readingOk head) value.toInt s) := by
      simp [exec, execProbeReading, hw, hpass, hs]
    generalize readingProbe head = i at *
    cases hb : readingBad (s.temp.probes.get i) (readingOk head) value.toInt with
    | true =>
      rw [takeReading_bad hb] at hexec
      refine ⟨_, hexec, rfl, ?_, fun _ => ⟨?_, ?_, rfl⟩, fun h => by simp at h⟩
      · simp
      · simp
      · rw [rechoose_goodReadings]; rfl
    | false =>
      rw [takeReading_good hb] at hexec
      refine ⟨_, hexec, rfl, ?_, fun h => by simp at h, fun _ => ⟨?_, ?_, rfl⟩⟩
      · simp
      · simp
      · rw [rechoose_goodReadings]; rfl
  case rules =>
    obtain ⟨hlast, hbad, hring⟩ := goodReading_kept now v p
    refine ⟨hlast, hbad, hring, goodReading_valid now v p, fun h hn => ?_, fun h hn => ?_, fun h => ?_, fun h => ?_⟩
    · rw [badReading_running h, if_pos hn]
    · rw [badReading_running h, if_neg (by omega)]
    · simp [badReading, h]
    · simp [badReading, h]

/-! ### The timers (R47, R52, R53) -/

/-- Settles O30: each timer that is reached leads to a re-choice. -/
theorem temperatureTimersExpire : Obligations.TemperatureTimersExpire := by
  unfold Obligations.TemperatureTimersExpire
  refine ⟨fun i s g hs hg hr => ?_, fun s e he hr => ?_, fun s e he hr => ?_, fun s e he hr hnone => ?_⟩
  · have hexec : exec (.stalenessExpiry i) s = .next (rechoose (changeProbe i (fun p => { p with state := .stale }) s)) := by
      have hdue : stalenessDue s i = true := by
        simp only [stalenessDue, hs, hg, decide_true, Bool.true_and, Option.map_some, Option.getD_some]
        exact hr
      simp [exec, execStalenessExpiry, hdue]
    refine ⟨_, hexec, rfl, rfl, ?_, ?_⟩
    · simp
    · simp
  · simp [exec, execFreshnessExpiry, isDue, he, hr]
  · simp [exec, execHeldTimerExpiry, isDue, he, hr]
  · have hexec : exec .heldTimerExpiry s = .next (rechoose (s.withTemp { s.temp with held := none, heldExpiry := none })) := by
      simp [exec, execHeldTimerExpiry, isDue, he, hr]
    have hlive : liveChoice (s.withTemp { s.temp with held := none, heldExpiry := none }) = none := hnone
    rw [rechoose_eq, hlive, choose_default rfl] at hexec
    exact ⟨_, hexec, rfl, rfl, rfl, rfl, rfl, rfl⟩

end Sys2Proof.Machine

namespace Sys2Proof.Machine

open Sys2Proof

/-! The axle former (O32, O33). -/

/-! ### Axles formed (R66, R186) -/

@[simp] theorem raise_counters (n : Notice) (s : State) : (raise n s).counters = s.counters := rfl

@[simp] theorem bump_counters (k : Counter) (s : State) : (bump k s).counters = s.counters.bump k := rfl

theorem Counters.bump_axlesFormed (c : Counters) {k : Counter} (h : k ≠ .axlesFormed) :
    (c.bump k).axlesFormed = c.axlesFormed := by
  cases k
  case axlesFormed => exact absurd rfl h
  all_goals rfl

@[simp] theorem txDrop_axlesFormed (s : State) : (txDrop s).counters.axlesFormed = s.counters.axlesFormed := rfl

@[simp] theorem mergeFull_axlesFormed (s : State) : (mergeFull s).counters.axlesFormed = s.counters.axlesFormed := rfl

@[simp] theorem offerUrgent_axlesFormed (f : TxFrame) (s : State) :
    (offerUrgent f s).1.counters.axlesFormed = s.counters.axlesFormed := by
  unfold offerUrgent
  (repeat' split) <;> simp

@[simp] theorem offerOverload_axlesFormed (f : TxFrame) (s : State) :
    (offerOverload f s).1.counters.axlesFormed = s.counters.axlesFormed := by
  unfold offerOverload
  split <;> simp

@[simp] theorem classVehicle_axlesFormed (v : Vehicle) (s : State) :
    (classVehicle v s).counters.axlesFormed = s.counters.axlesFormed := by
  unfold classVehicle
  dsimp only
  split <;> simp

@[simp] theorem leaveClosing_axlesFormed (number : BitVec 16) (s : State) :
    (leaveClosing number s).counters.axlesFormed = s.counters.axlesFormed := by
  unfold leaveClosing
  (repeat' split) <;> simp [Counters.bump_axlesFormed]

@[simp] theorem closeEntry_axlesFormed (number : BitVec 16) (cause : CloseCause) (s : State) :
    (closeEntry number cause s).counters.axlesFormed = s.counters.axlesFormed := by simp [closeEntry]

@[simp] theorem openVehicle_axlesFormed (a : Axle) (lead : Option Nat) (s : State) :
    (openVehicle a lead s).1.counters.axlesFormed = s.counters.axlesFormed := by
  unfold openVehicle
  split <;> simp [Counters.bump_axlesFormed]

@[simp] theorem placeAxle_axlesFormed (a : Axle) (s : State) :
    (placeAxle a s).1.counters.axlesFormed = s.counters.axlesFormed := by
  unfold placeAxle truncateEntry
  (repeat' split) <;> simp

/-- An axle handed over is counted once. -/
@[simp] theorem handAxle_axlesFormed (a : Axle) (s : State) :
    (handAxle a s).1.counters.axlesFormed = satInc s.counters.axlesFormed := by
  simp [handAxle, Counters.bump]

@[simp] theorem takeMerge_axlesFormed (e : MergeEntry) (h : PeerHalf) (s : State) :
    (takeMerge e h s).counters.axlesFormed = s.counters.axlesFormed := by
  unfold takeMerge giveUpMerge
  dsimp only
  split <;> simp [Counters.bump_axlesFormed]

/-- A lone wheel becomes one axle. -/
@[simp] theorem takeLone_axlesFormed (w : WeighedHit) (s : State) :
    (takeLone w s).counters.axlesFormed = satInc s.counters.axlesFormed := by
  unfold takeLone cederHalf ownerHalf handPart
  dsimp only
  (repeat' split) <;> simp

/-! ### Wheels pair or are held (R60 to R63) -/

theorem wheelsPair_iff (w : WeighedHit) (h : HeldWheel) :
    wheelsPair w h = true ↔
      (sdiff w.hit.centre h.wheel.hit.centre).natAbs ≤ h.window ∧
      ((w.hit.speed : Int) - h.wheel.hit.speed).natAbs * 10 ≤ min w.hit.speed h.wheel.hit.speed := by
  simp [wheelsPair, within, speedsAgree]

/-- A wheel in RUN takes the first held wheel of the other path that pairs. -/
theorem receiveWheel_pairs {s : State} {w : WeighedHit} {h : HeldWheel} {older newer : List HeldWheel}
    (hrun : s.ctl.station = .run) (hl : s.former.holding.get (otherPath w.hit.path) = older ++ h :: newer)
    (hold : ∀ x ∈ older, wheelsPair w x = false) (hpair : wheelsPair w h = true) :
    receiveWheel w s = (handAxle (pairAxle w h) (withHolding s (otherPath w.hit.path) (older ++ newer))).1 := by
  simp [receiveWheel, inRun, hrun, hl, takeFirst_at _ _ _ _ hold hpair]

/-- At a full list the oldest wheel is first taken as lone. -/
theorem holdWheel_full {s : State} {w : WeighedHit} {h : HeldWheel} {rest : List HeldWheel}
    (hl : s.former.holding.get w.hit.path = h :: rest) (hfull : rest.length = 3) :
    holdWheel w s =
      withHolding (takeLone h.wheel (withHolding s w.hit.path rest)) w.hit.path (rest ++ [heldWheel s.setup w]) := by
  simp [holdWheel, hl, hfull, holdingCap]

theorem roundHalfUp_two (n : Nat) : roundHalfUp n 2 = (n + 1) / 2 := by unfold roundHalfUp; omega

/-- Settles O32, by the first held wheel that pairs. -/
theorem wheelsPairOrAreHeld : Obligations.WheelsPairOrAreHeld := by
  unfold Obligations.WheelsPairOrAreHeld
  refine ⟨fun w s h => receiveWheel_before_run h w, wheelsPair_iff, fun w s h older newer hrun hl hold hpair => ?_,
    fun w s hrun hnone hroom => ?_, fun w s h rest hrun hnone hl hfull => ?_⟩
  · refine ⟨_, receiveWheel_pairs hrun hl hold hpair, ?_⟩
    cases hp : w.hit.path with
    | left => simp [pairAxle, hp, fullAxle, ownWheel, roundHalfUp_two]
    | right => simp [pairAxle, hp, fullAxle, ownWheel, roundHalfUp_two, Nat.add_comm]
  · rw [receiveWheel_holds hrun hnone, holdWheel_room hroom]
  · have hhold := (receiveWheel_holds hrun hnone).trans (holdWheel_full hl hfull)
    exact ⟨hhold, by rw [hhold]; simp⟩

/-! ### Lone declarations (R64 to R66) -/

/-- A time that lies behind another has not been reached by it. -/
theorem not_reached_of_isLater {u v : BitVec 32} (h : isLater v u = true) : reached u v = false := by
  rw [← Bool.not_eq_true, reached_iff]
  rw [isLater_iff] at h
  have hu := u.isLt
  have hv := v.isLt
  simp only [BitVec.toInt_eq_toNat_cond, BitVec.toNat_sub] at h ⊢
  omega

/-- A wheel can be declared lone once no wheel can pair with it any more: the three conditions of R64. -/
theorem canDeclare_of {s : State} {p : Path} {h : HeldWheel} (hend : isLater (inHalfTicks s.tick) h.windowEnd = true)
    (hweigh : ∀ x ∈ s.weigh.queue ++ (s.weigh.inFlight.map Weighing.hit).toList, x.path = otherPath p →
      within x.centre h.wheel.hit.centre h.window = false)
    (hrecords : ∀ a ∈ s.pairer.get (otherPath p),
      isLater (inHalfTicks s.tick) (spanEnd s.setup.spacing a) = true ∨
      isLater (spanBegin s.setup.spacing a) (after h.wheel.hit.centre h.window) = true ∨
      isLater (h.wheel.hit.centre - BitVec.ofNat 32 h.window) (spanEnd s.setup.spacing a) = true) :
    canDeclare s p h = true := by
  have hw : weighHolds s p h = false := by
    rw [weighHolds, List.any_eq_false]
    intro x hx
    rw [Bool.and_eq_true, decide_eq_true_iff]
    rintro ⟨hpath, hin⟩
    simp [hweigh x hx hpath] at hin
  have hr : (s.pairer.get (otherPath p)).any (recordHolds s h) = false := by
    rw [List.any_eq_false]
    intro a ha
    rcases hrecords a ha with hlate | hlate | hlate <;> simp [recordHolds, not_reached_of_isLater hlate]
  simp [canDeclare, hend, hw, hr]

theorem endEvent_link (before s : State) : (endEvent before s).link = s.link := by simp

theorem exec_loneDeclaration {s : State} {p : Path} {h : HeldWheel} {older newer : List HeldWheel}
    (hl : s.former.holding.get p = older ++ h :: newer) (hold : ∀ x ∈ older, canDeclare s p x = false)
    (hcan : canDeclare s p h = true) :
    exec (.loneDeclaration p) s = .next (endEvent s (takeLone h.wheel (withHolding s p (older ++ newer)))) := by
  simp [exec, execLoneDeclaration, hl, takeFirst_at _ _ _ _ hold hcan]

/-- A lone wheel of an edge without neighbour strap is PARTIAL at once. -/
theorem takeLone_unshared {s : State} {w : WeighedHit}
    (h : (w.hit.path = .left ∧ s.straps.leftNeighbour = false) ∨
      (w.hit.path = .right ∧ s.straps.rightNeighbour = false)) :
    takeLone w s = (handAxle (partAxle (ownWheel w) none) s).1 := by
  rcases h with ⟨hp, hs⟩ | ⟨hp, hs⟩ <;> simp [takeLone, hp, hs, handPart]

theorem partAxle_left {w : WeighedHit} (h : w.hit.path = .left) (ref : Option Byte) :
    partAxle (ownWheel w) ref =
      { time := w.hit.centre, speed := w.hit.speed, left := some w.data, right := none, kind := .part, unconfirmed := false,
        ref := ref, link := none } := by
  simp [partAxle, ownWheel, leftOf, rightOf, h]

theorem partAxle_right {w : WeighedHit} (h : w.hit.path = .right) (ref : Option Byte) :
    partAxle (ownWheel w) ref =
      { time := w.hit.centre, speed := w.hit.speed, left := none, right := some w.data, kind := .part, unconfirmed := false,
        ref := ref, link := none } := by
  simp [partAxle, ownWheel, leftOf, rightOf, h]

/-- Settles O33: the wheel leaves its list and is taken as lone. -/
theorem loneWheelsAreDeclaredOldestFirst : Obligations.LoneWheelsAreDeclaredOldestFirst := by
  unfold Obligations.LoneWheelsAreDeclaredOldestFirst
  intro s p h older newer hl hold hend hweigh hrecords
  refine ⟨_, exec_loneDeclaration hl hold (canDeclare_of hend hweigh hrecords), ?_, ?_, fun hedge => ?_, ?_, ?_⟩
  · simp [withHolding]
  · simp
  · have hlone := takeLone_unshared (s := withHolding s p (older ++ newer)) (by simpa using hedge)
    rw [hlone]
    refine ⟨by simp [withHolding], by simp [withHolding], partAxle (ownWheel h.wheel) none, rfl, rfl, rfl, rfl, rfl, rfl,
      fun hp => ?_, fun hp => ?_, by simp⟩
    · rw [partAxle_left hp]; exact ⟨rfl, rfl⟩
    · rw [partAxle_right hp]; exact ⟨rfl, rfl⟩
  · rw [endEvent_link, line_rxQueue (takeLone_line _ _)]
    rfl
  · simp [SameMeasuring]

end Sys2Proof.Machine

namespace Sys2Proof.Machine

open Sys2Proof

/-! The vehicle assembler: what each operation does to the vehicle entries, and the entry that leaves CLOSING. -/

/-! ### The assembler without its entries -/

/-- The vehicle assembler without its entries: counter, last number, closing order, presence and run count. -/
def Assembler.rest (a : Assembler) : Assembler := { a with entries := [] }

@[simp] theorem rest_withEntries (a : Assembler) (l : List Vehicle) : Assembler.rest { a with entries := l } = a.rest := rfl

/-- Two assemblers that agree but for their entries agree on each other part. -/
theorem rest_parts {a b : Assembler} (h : a.rest = b.rest) :
    a.counter = b.counter ∧ a.lastOpened = b.lastOpened ∧ a.closingOrder = b.closingOrder ∧ a.presence = b.presence ∧
      a.runCount = b.runCount := by
  simpa [Assembler.rest] using h

theorem rest_closingOrder {a b : Assembler} (h : a.rest = b.rest) : a.closingOrder = b.closingOrder := (rest_parts h).2.2.1

@[simp] theorem changeVehicle_rest (number : BitVec 16) (g : Vehicle → Vehicle) (s : State) :
    (changeVehicle number g s).veh.rest = s.veh.rest := rfl

@[simp] theorem returnToReady_rest (f : TxFrame) (s : State) : (returnToReady f s).veh.rest = s.veh.rest := by
  unfold returnToReady
  split <;> simp

@[simp] theorem offerUrgent_rest (f : TxFrame) (s : State) : (offerUrgent f s).1.veh.rest = s.veh.rest := by
  unfold offerUrgent
  (repeat' split) <;> simp

@[simp] theorem offerOverload_rest (f : TxFrame) (s : State) : (offerOverload f s).1.veh.rest = s.veh.rest := by
  unfold offerOverload
  split <;> simp

@[simp] theorem classVehicle_rest (v : Vehicle) (s : State) : (classVehicle v s).veh.rest = s.veh.rest := by
  unfold classVehicle
  dsimp only
  split <;> simp

@[simp] theorem admitVehicle_rest (v : Vehicle) (s : State) : (admitVehicle v s).veh.rest = s.veh.rest := by
  simp [admitVehicle]

@[simp] theorem offerList_rest (l : List (BitVec 16)) (s : State) : (offerList l s).veh.rest = s.veh.rest := by
  induction l generalizing s with
  | nil => rfl
  | cons number l ih =>
    unfold offerList
    (repeat' split) <;> simp [ih]

@[simp] theorem offerReady_rest (s : State) : (offerReady s).veh.rest = s.veh.rest := offerList_rest _ s

@[simp] theorem changeOpen_rest (g : Vehicle → Vehicle) (s : State) : (changeOpen g s).veh.rest = s.veh.rest := rfl

@[simp] theorem changeAxle_rest (e : MergeEntry) (g : Axle → Axle) (s : State) :
    (changeAxle e g s).veh.rest = s.veh.rest := rfl

@[simp] theorem moveAxle_rest (e : MergeEntry) (g : Axle → Axle) (b : Bool) (s : State) :
    (moveAxle e g b s).veh.rest = s.veh.rest := rfl

@[simp] theorem removeAxle_rest (e : MergeEntry) (s : State) : (removeAxle e s).veh.rest = s.veh.rest := rfl

/-! ### Entries that move between READY and QUEUED -/

/-- Entry `w` is entry `v` but for its state. -/
def SameButState (v w : Vehicle) : Prop := w = { v with state := w.state }

theorem SameButState.refl (v : Vehicle) : SameButState v v := rfl

theorem SameButState.of_state {v : Vehicle} (x : VehicleState) : SameButState v { v with state := x } := rfl

theorem SameButState.trans {v w x : Vehicle} (h : SameButState v w) (h' : SameButState w x) : SameButState v x := by
  unfold SameButState at *
  rw [h']
  rw [h]

theorem SameButState.number {v w : Vehicle} (h : SameButState v w) : w.number = v.number := by rw [h]

/-- An entry kept, or admitted to the transmit queue. -/
def KeptOrQueued (v w : Vehicle) : Prop := w = v ∨ w = { v with state := .queued }

theorem forall₂_trans {α : Type} {R : α → α → Prop} (hR : ∀ {a b c}, R a b → R b c → R a c) {l m n : List α}
    (h : List.Forall₂ R l m) (h' : List.Forall₂ R m n) : List.Forall₂ R l n := by
  induction h generalizing n with
  | nil => exact h'
  | cons hab _ ih =>
    cases h' with
    | cons hbc ht => exact .cons (hR hab hbc) (ih ht)

/-- A pointwise change of a list, seen at one of its elements. -/
theorem forall₂_at {α : Type} {R : α → α → Prop} {before behind l : List α} {a : α}
    (h : List.Forall₂ R (before ++ a :: behind) l) :
    ∃ before' b behind', l = before' ++ b :: behind' ∧ List.Forall₂ R before before' ∧ R a b ∧
      List.Forall₂ R behind behind' := by
  induction before generalizing l with
  | nil =>
    cases h with
    | cons hab ht => exact ⟨[], _, _, rfl, .nil, hab, ht⟩
  | cons x before ih =>
    cases h with
    | cons hxy ht =>
      obtain ⟨before', b, behind', rfl, hbefore, hab, hbehind⟩ := ih ht
      exact ⟨_ :: before', b, behind', rfl, .cons hxy hbefore, hab, hbehind⟩

theorem forall₂_map_self {α : Type} {R : α → α → Prop} {g : α → α} {l : List α} (h : ∀ a ∈ l, R a (g a)) :
    List.Forall₂ R l (l.map g) := by
  induction l with
  | nil => exact .nil
  | cons a l ih => exact .cons (h a (by simp)) (ih fun b hb => h b (by simp [hb]))

theorem forall₂_refl_of {α : Type} {R : α → α → Prop} (hR : ∀ a, R a a) (l : List α) : List.Forall₂ R l l := by
  simpa using forall₂_map_self (R := R) (g := id) (l := l) fun a _ => hR a

theorem changeVehicle_entries (number : BitVec 16) (g : Vehicle → Vehicle) (s : State) :
    (changeVehicle number g s).veh.entries = s.veh.entries.map fun v => if v.number = number then g v else v := rfl

theorem changeVehicle_forall₂ {R : Vehicle → Vehicle → Prop} (hR : ∀ v, R v v) {number : BitVec 16}
    {g : Vehicle → Vehicle} (hg : ∀ v, R v (g v)) (s : State) :
    List.Forall₂ R s.veh.entries (changeVehicle number g s).veh.entries := by
  rw [changeVehicle_entries]
  refine forall₂_map_self fun v _ => ?_
  split
  · exact hg v
  · exact hR v

/-- The change of one entry among entries of other numbers. -/
theorem changeVehicle_at {s : State} {before behind : List Vehicle} {v : Vehicle} (g : Vehicle → Vehicle)
    (hl : s.veh.entries = before ++ v :: behind) (hother : ∀ x ∈ before ++ behind, x.number ≠ v.number) :
    (changeVehicle v.number g s).veh.entries = before ++ g v :: behind := by
  have hkeep : ∀ l : List Vehicle, (∀ x ∈ l, x.number ≠ v.number) →
      l.map (fun x => if x.number = v.number then g x else x) = l := fun l hne =>
    (List.map_congr_left fun x hx => if_neg (hne x hx)).trans (List.map_id l)
  rw [changeVehicle_entries, hl, List.map_append, List.map_cons, if_pos rfl,
    hkeep before fun x hx => hother x (by simp [hx]), hkeep behind fun x hx => hother x (by simp [hx])]

/-- The entry of a number is the only one that has it. -/
theorem findVehicle_at {s : State} {before behind : List Vehicle} {v : Vehicle}
    (hl : s.veh.entries = before ++ v :: behind) (hother : ∀ x ∈ before ++ behind, x.number ≠ v.number) :
    findVehicle v.number s = some v := by
  rw [findVehicle, hl]
  exact find_at _ _ _ _ (fun x hx => by simp [hother x (by simp [hx])]) (by simp)

theorem findVehicle_some {number : BitVec 16} {s : State} {v : Vehicle} (h : findVehicle number s = some v) :
    v ∈ s.veh.entries ∧ v.number = number := by
  rw [findVehicle] at h
  exact ⟨List.mem_of_find?_eq_some h, by simpa using List.find?_some h⟩

theorem returnToReady_forall₂ (f : TxFrame) (s : State) :
    List.Forall₂ SameButState s.veh.entries (returnToReady f s).veh.entries := by
  unfold returnToReady
  split
  · exact changeVehicle_forall₂ SameButState.refl (fun v => .of_state _) s
  · exact forall₂_refl_of SameButState.refl _

theorem offerUrgent_forall₂ (f : TxFrame) (s : State) :
    List.Forall₂ SameButState s.veh.entries (offerUrgent f s).1.veh.entries := by
  have hrefl := forall₂_refl_of SameButState.refl s.veh.entries
  unfold offerUrgent
  (repeat' split)
  · exact hrefl
  · simpa using hrefl
  · exact returnToReady_forall₂ _ (withQueue s (dropLast vehicleWaiting s.link.queue))
  · simpa using hrefl
  · exact hrefl

theorem offerOverload_forall₂ (f : TxFrame) (s : State) :
    List.Forall₂ SameButState s.veh.entries (offerOverload f s).1.veh.entries := by
  unfold offerOverload
  split
  · exact forall₂_refl_of SameButState.refl _
  · exact offerUrgent_forall₂ f s

theorem offerList_forall₂ (l : List (BitVec 16)) (s : State) :
    List.Forall₂ KeptOrQueued s.veh.entries (offerList l s).veh.entries := by
  have htrans : ∀ {a b c : Vehicle}, KeptOrQueued a b → KeptOrQueued b c → KeptOrQueued a c := by
    rintro a b c (rfl | rfl) (rfl | rfl)
    · exact .inl rfl
    · exact .inr rfl
    · exact .inr rfl
    · exact .inr rfl
  induction l generalizing s with
  | nil => exact forall₂_refl_of (fun _ => .inl rfl) _
  | cons number l ih =>
    unfold offerList
    split
    · split_ifs
      · exact forall₂_trans (R := KeptOrQueued) @htrans
          (changeVehicle_forall₂ (R := KeptOrQueued) (fun _ => .inl rfl) (fun _ => .inr rfl) (takePlace _ s)) (ih _)
      · exact forall₂_refl_of (fun _ => .inl rfl) _
      · exact ih s
    · exact ih s

/-! ### The entry that leaves CLOSING (R97 to R99, R103) -/

/-- The classing event of the one entry of its number: it is READY with its outcome, and the others keep all but their
state. -/
theorem classVehicle_at {s : State} {before behind : List Vehicle} {v : Vehicle}
    (hl : s.veh.entries = before ++ v :: behind) (hother : ∀ x ∈ before ++ behind, x.number ≠ v.number) :
    ∃ before' behind' n, (classVehicle v s).veh.entries = before' ++ { v with
        state := .ready, outcome := some { classify s.cal.working (screenInput s) v with notice := n } } :: behind' := by
  unfold classVehicle
  dsimp only
  split
  · generalize hr : offerOverload _ s = r
    have hrel := offerOverload_forall₂ (mkFrame .overload broadcast (overloadPayload (ownLane s) v
      (classify s.cal.working (screenInput s) v))) s
    rw [hr, hl] at hrel
    obtain ⟨before', w, behind', hr', hbefore, hw, hbehind⟩ := forall₂_at hrel
    have hnum : ∀ x ∈ before' ++ behind', x.number ≠ w.number := by
      have hback : ∀ {l l' : List Vehicle}, List.Forall₂ SameButState l l' → ∀ x ∈ l', ∃ y ∈ l, x.number = y.number := by
        intro l l' h
        induction h with
        | nil => simp
        | cons hab _ ih =>
          intro x hx
          rcases List.mem_cons.1 hx with rfl | hx
          · exact ⟨_, by simp, hab.number⟩
          · obtain ⟨y, hy, hxy⟩ := ih x hx
            exact ⟨y, by simp [hy], hxy⟩
      intro x hx
      rw [hw.number]
      rcases List.mem_append.1 hx with hx | hx
      · obtain ⟨y, hy, hxy⟩ := hback hbefore x hx
        exact hxy ▸ hother y (by simp [hy])
      · obtain ⟨y, hy, hxy⟩ := hback hbehind x hx
        exact hxy ▸ hother y (by simp [hy])
    refine ⟨before', behind', r.2, ?_⟩
    rw [← hw.number, changeVehicle_at _ hr' hnum, hw]
  · exact ⟨before, behind, _, changeVehicle_at _ hl hother⟩

/-- The one entry of its number that has an axle leaves CLOSING when no merge-table entry waits for it. -/
theorem leaveClosing_leaves {s : State} {before behind : List Vehicle} {v : Vehicle}
    (hl : s.veh.entries = before ++ v :: behind) (hother : ∀ x ∈ before ++ behind, x.number ≠ v.number)
    (hs : v.state = .closing) (hfree : hasLinked v.number s = false) (haxles : v.axles ≠ []) :
    LeftClosing v v.axles s (leaveClosing v.number s) := by
  have hleave : leaveClosing v.number s =
      offerReady (classVehicle { v with state := .closed } (enterClosed v.number s)) := by
    simp [leaveClosing, findVehicle_at hl hother, hs, hfree, haxles]
  have hclosed : (enterClosed v.number s).veh.entries = before ++ { v with state := .closed } :: behind :=
    changeVehicle_at (s := s.withVeh { s.veh with closingOrder := s.veh.closingOrder ++ [v.number] }) _ hl hother
  obtain ⟨before', behind', n, hclass⟩ := classVehicle_at (v := { v with state := .closed }) hclosed hother
  have hoffer := offerList_forall₂ (classVehicle { v with state := .closed } (enterClosed v.number s)).veh.closingOrder
    (classVehicle { v with state := .closed } (enterClosed v.number s))
  rw [hclass] at hoffer
  obtain ⟨_, w, _, hentries, -, hw, -⟩ := forall₂_at hoffer
  rw [hleave]
  refine ⟨?_, w, ?_, ?_, n, ?_⟩
  · rw [rest_closingOrder (offerReady_rest _), rest_closingOrder (classVehicle_rest _ _)]
    rfl
  · rw [offerReady, hentries]; simp
  · rcases hw with rfl | rfl <;> simp
  · rcases hw with rfl | rfl <;> rfl

/-- The one entry of its number that has lost its axles is freed. -/
theorem leaveClosing_frees {s : State} {before behind : List Vehicle} {v : Vehicle}
    (hl : s.veh.entries = before ++ v :: behind) (hother : ∀ x ∈ before ++ behind, x.number ≠ v.number)
    (hs : v.state = .closing) (hfree : hasLinked v.number s = false) (haxles : v.axles = []) :
    leaveClosing v.number s = bump .cededWhole (s.withVeh { s.veh with
      entries := before ++ behind, closingOrder := s.veh.closingOrder.filter fun n => decide (n ≠ v.number) }) := by
  have hfilter : s.veh.entries.filter (fun x => decide (x.number ≠ v.number)) = before ++ behind := by
    rw [hl, List.filter_append, List.filter_cons_of_neg (by simp)]
    rw [← List.filter_append]
    exact List.filter_eq_self.2 fun x hx => by simpa using hother x hx
  have hleave : leaveClosing v.number s = bump .cededWhole (freeVehicle v.number s) := by
    simp [leaveClosing, findVehicle_at hl hother, hs, hfree, haxles]
  rw [hleave, freeVehicle, hfilter]

/-- An entry stays in CLOSING, or where it is, unless it is CLOSING without a wait. -/
theorem leaveClosing_stays {s : State} {number : BitVec 16}
    (h : ∀ v ∈ s.veh.entries, v.number = number → v.state = .closing → hasLinked number s = true) :
    leaveClosing number s = s := by
  unfold leaveClosing
  split
  · next v hv =>
    obtain ⟨hmem, hnum⟩ := findVehicle_some hv
    rw [if_neg]
    rintro ⟨hs, hfree⟩
    simp [h v hmem hnum hs] at hfree
  · rfl

theorem hasLinked_iff {number : BitVec 16} {s : State} :
    hasLinked number s = true ↔ ∃ m ∈ s.former.merges, m.vehicle = number ∧ m.state ≠ .ceded := by
  simp [hasLinked]

theorem not_hasLinked_iff {number : BitVec 16} {s : State} :
    hasLinked number s = false ↔ ∀ m ∈ s.former.merges, m.vehicle = number → m.state = .ceded := by
  simp [hasLinked]

end Sys2Proof.Machine

namespace Sys2Proof.Machine

open Sys2Proof

/-! Axles join or open vehicles, and the OPEN entry closes (O39, O40). -/

/-! ### An axle arrives (R86 to R92) -/

theorem mem_insertAxle (a : Axle) (l : List Axle) : a ∈ insertAxle a l := by
  induction l with
  | nil => simp [insertAxle]
  | cons b l ih =>
    unfold insertAxle
    split
    · simp
    · simp [ih]

/-- The spacing part of the joining test in numbers. -/
theorem spacingOk_iff (u : Setup) (v : Vehicle) (a : Axle) :
    spacingOk u v a = true ↔
      (2 * ((a.speed + v.lastSpeed) * (sdiff a.time v.lastTime).natAbs) + 32000) / 64000 ≤ u.maxSpacing ∨
        65535 ≤ u.maxSpacing := by
  unfold spacingOk spacingMax roundHalfUp
  rw [decide_eq_true_iff, min_le_iff, or_comm]

theorem placeAxle_of_none {s : State} (h : openEntry s = none) (a : Axle) : placeAxle a s = openVehicle a none s := by
  simp [placeAxle, h]

/-- An axle that fails a part of the joining test closes the OPEN entry and opens a vehicle. -/
theorem placeAxle_fails {s : State} {v : Vehicle} {a : Axle} (h : openEntry s = some v)
    (hfails : spacingOk s.setup v a = false ∨ speedOk v a = false) :
    placeAxle a s =
      openVehicle a none (closeEntry v.number (if spacingOk s.setup v a then .speed else .spacing) s) := by
  have hboth : (spacingOk s.setup v a && speedOk v a) = false := by rcases hfails with h | h <;> simp [h]
  simp [placeAxle, h, hboth]

theorem placeAxle_joins {s : State} {v : Vehicle} {a : Axle} (h : openEntry s = some v)
    (hspacing : spacingOk s.setup v a = true) (hspeed : speedOk v a = true) (hroom : v.axles.length < 12) :
    placeAxle a s = (changeOpen (joinVehicle s a) s, some v.number) := by
  simp [placeAxle, h, hspacing, hspeed, hroom, axleCap]

theorem placeAxle_continues {s : State} {v : Vehicle} {a : Axle} (h : openEntry s = some v)
    (hspacing : spacingOk s.setup v a = true) (hspeed : speedOk v a = true) (hfull : v.axles.length = 12) :
    placeAxle a s = openVehicle a (some (min 255 (v.lead + 12)))
      (closeEntry v.number .axleLimit (changeOpen (fun x => { x with truncated := true }) s)) := by
  simp [placeAxle, h, hspacing, hspeed, hfull, axleCap, leadMax, truncateEntry]

theorem openVehicle_room {s : State} (hroom : s.veh.entries.length < 8) (a : Axle) (lead : Option Nat) :
    openVehicle a lead s = (s.withVeh { s.veh with
      entries := s.veh.entries ++ [newVehicle s a lead], counter := s.veh.counter + 1
      lastOpened := some s.veh.counter }, some s.veh.counter) := by
  simp [openVehicle, vehicleCap, hroom]

theorem openVehicle_full {s : State} (hfull : s.veh.entries.length = 8) (a : Axle) (lead : Option Nat) :
    openVehicle a lead s = (raise .queueLoss (bump .vehicleLoss s), none) := by
  simp [openVehicle, vehicleCap, hfull]

/-- Settles O39, by the OPEN entry and the two parts of the joining test. -/
theorem axlesJoinOrOpenVehicles : Obligations.AxlesJoinOrOpenVehicles := by
  unfold Obligations.AxlesJoinOrOpenVehicles
  refine ⟨fun s a => ⟨handAxle_run a s, rfl⟩, fun s a hnone hroom => ?_, fun s a hnone hfull => ?_,
    fun s a v hopen hspacing hspeed => ⟨fun hroom => ?_, fun hfull => ?_⟩, fun s a v hopen hset hspacing => ?_,
    fun s a v hopen hspacing hspeed => ?_⟩
  · rw [placeAxle_of_none hnone, openVehicle_room hroom]
    exact ⟨_, rfl, rfl, rfl, rfl, rfl, rfl, rfl, rfl, rfl, rfl, rfl, rfl, rfl⟩
  · rw [placeAxle_of_none hnone, openVehicle_full hfull]
  · refine ⟨placeAxle_joins hopen ((spacingOk_iff _ _ _).2 (.inl hspacing)) (by simpa [speedOk] using hspeed) hroom,
      insertAxle_length a _, mem_insertAxle a _, rfl, rfl, rfl, fun hl => ?_, fun hl => ?_⟩
    · simp [joinVehicle, hl]
    · simp [joinVehicle, hl]
  · exact placeAxle_continues hopen ((spacingOk_iff _ _ _).2 (.inl hspacing)) (by simpa [speedOk] using hspeed) hfull
  · have hfails : spacingOk s.setup v a = false := by
      rw [← Bool.not_eq_true, spacingOk_iff]
      omega
    rw [placeAxle_fails hopen (.inl hfails), hfails]
    rfl
  · have hok : spacingOk s.setup v a = true := (spacingOk_iff _ _ _).2 (.inl hspacing)
    rw [placeAxle_fails hopen (.inr (by simpa [speedOk] using hspeed)), hok]
    rfl

/-! ### The gap timer (R92, R97) -/

theorem changeOpen_at {s : State} {before behind : List Vehicle} {v : Vehicle} (g : Vehicle → Vehicle)
    (hl : s.veh.entries = before ++ v :: behind) (hs : v.state = .opened)
    (hother : ∀ x ∈ before ++ behind, x.state ≠ .opened) :
    (changeOpen g s).veh.entries = before ++ g v :: behind := by
  have hkeep : ∀ l : List Vehicle, (∀ x ∈ l, x.state ≠ .opened) →
      l.map (fun x => if x.state = .opened then g x else x) = l := fun l hne =>
    (List.map_congr_left fun x hx => if_neg (hne x hx)).trans (List.map_id l)
  have hmap : (changeOpen g s).veh.entries = s.veh.entries.map fun x => if x.state = .opened then g x else x := rfl
  rw [hmap, hl, List.map_append, List.map_cons, if_pos hs, hkeep before fun x hx => hother x (by simp [hx]),
    hkeep behind fun x hx => hother x (by simp [hx])]

theorem openEntry_at {s : State} {before behind : List Vehicle} {v : Vehicle}
    (hl : s.veh.entries = before ++ v :: behind) (hs : v.state = .opened)
    (hother : ∀ x ∈ before ++ behind, x.state ≠ .opened) : openEntry s = some v := by
  rw [openEntry, hl]
  exact find_at _ _ _ _ (fun x hx => by simp [hother x (by simp [hx])]) (by simp [hs])

theorem laneClear_of_open {s : State} {v : Vehicle} (hv : v ∈ s.veh.entries) (hs : v.state = .opened) :
    laneClear s = false := by
  rw [← Bool.not_eq_true, laneClear, Bool.and_eq_true, List.all_eq_true]
  rintro ⟨hall, -⟩
  simpa [hs] using hall v hv

/-- The run that the end of an event starts when an OPEN entry made the lane not clear before it (R101). -/
theorem endEvent_run_of_open {s z : State} {v : Vehicle} (hv : v ∈ s.veh.entries) (hs : v.state = .opened)
    (hctl : z.ctl = s.ctl) (hsetup : z.setup = s.setup) (hrun : s.ctl.station = .run)
    (hclear : laneClear (endEvent s z) = true) : (endEvent s z).veh.runCount = s.setup.clearCount := by
  have hstation : (endEvent s z).ctl.station = .run := by rw [endEvent_station, hctl]; simp [hrun]
  rw [endEvent_run s z hstation hclear (.inr (laneClear_of_open hv hs))]
  simp [hsetup]

theorem endEvent_entries (before s : State) : (endEvent before s).veh.entries = s.veh.entries := by simp

theorem endEvent_closingOrder (before s : State) : (endEvent before s).veh.closingOrder = s.veh.closingOrder := by simp

theorem exec_gapTimerExpiry {s : State} {v : Vehicle} {e : Tick} (hopen : openEntry s = some v)
    (he : v.gapExpiry = some e) (hr : reached s.tick e = true) :
    exec .gapTimerExpiry s = .next (endEvent s (closeEntry v.number .gap s)) := by
  have hdue : gapDue s = some v := by simp [gapDue, hopen, isDue, he, hr]
  simp [exec, execGapTimerExpiry, hdue]

/-- Settles O40, by the linked merge entries and the axles of the OPEN entry. -/
theorem gapTimerClosesTheVehicle : Obligations.GapTimerClosesTheVehicle := by
  unfold Obligations.GapTimerClosesTheVehicle
  intro s v before behind e hl hs he hr hother
  have hmem : v ∈ s.veh.entries := by simp [hl]
  have hexec := exec_gapTimerExpiry (openEntry_at hl hs fun x hx => (hother x hx).1) he hr
  have hclosing := changeOpen_at (closingVehicle .gap) hl hs fun x hx => (hother x hx).1
  have hnumbers : ∀ x ∈ before ++ behind, x.number ≠ (closingVehicle .gap v).number := fun x hx => (hother x hx).2
  refine ⟨fun hfree haxles => ?_, fun hfree haxles => ?_, fun hlinked => ?_⟩
  · obtain ⟨horder, w, hw, hstate, n, hwn⟩ := leaveClosing_leaves hclosing hnumbers rfl (not_hasLinked_iff.2 hfree) haxles
    refine ⟨_, w, hexec, ?_, by rw [hwn]; rfl, by rw [hwn]; rfl, by rw [hwn]; rfl, by rw [hwn]; rfl, hstate,
      by rw [hwn]; rfl, ?_, ?_, by simp, endEvent_run_of_open hmem hs (by simp) (by simp),
      by simp [SameMeasuring]⟩
    · rw [endEvent_entries]; exact hw
    · rw [endEvent_closingOrder]; exact horder
    · exact openEntry_none_iff.2 ((noneOpen_closeEntry v.number .gap s).of_entries (endEvent_entries _ _))
  · have hfrees : closeEntry v.number .gap s = bump .cededWhole _ :=
      leaveClosing_frees (v := closingVehicle .gap v) hclosing hnumbers rfl (not_hasLinked_iff.2 hfree) haxles
    refine ⟨_, hexec, ?_, endEvent_run_of_open hmem hs (by simp) (by simp), ?_, by simp, ?_, by simp [SameMeasuring]⟩
    · rw [endEvent_entries, hfrees]; simp
    · simp [hfrees]
    · simp [hfrees]
  · have hstays : closeEntry v.number .gap s = changeOpen (closingVehicle .gap) s :=
      leaveClosing_stays fun _ _ _ _ => hasLinked_iff.2 hlinked
    refine ⟨_, hexec, ?_, ?_, by simp, ?_, by simp [SameMeasuring]⟩
    · rw [hstays]; simp [hclosing, closingVehicle]
    · simp [hstays]
    · simp [hstays]

end Sys2Proof.Machine

namespace Sys2Proof.Machine

open Sys2Proof

/-! The waits of the merge table: at their deadlines, and at the MERGE_CEDE or MERGE_REFUSE that ends a merge (O35, O38). -/

/-! ### What ends with a wait -/

theorem freeMerge_veh (slot : Nat) (s : State) : (freeMerge slot s).veh = s.veh := rfl

theorem changeAxle_former (e : MergeEntry) (g : Axle → Axle) (s : State) : (changeAxle e g s).former = s.former := rfl

theorem leaveClosing_former (number : BitVec 16) (s : State) : (leaveClosing number s).former = s.former := by simp

theorem offerReady_counters (s : State) : (offerReady s).counters = s.counters := by simp

theorem endEvent_former (before s : State) : (endEvent before s).former = s.former := by simp

theorem endEvent_raised (before s : State) : (endEvent before s).raised = s.raised := by simp

theorem endEvent_counters (before s : State) : (endEvent before s).counters = s.counters := by simp

theorem find?_unique {α : Type} {p : α → Bool} {l : List α} {a : α} (ha : a ∈ l) (hp : p a = true)
    (huniq : ∀ x ∈ l, p x = true → x = a) : l.find? p = some a := by
  obtain ⟨b, hb⟩ := Option.isSome_iff_exists.1 (List.find?_isSome.2 ⟨a, ha, hp⟩)
  rw [hb, huniq b (List.mem_of_find?_eq_some hb) (List.find?_some hb)]

/-- In a table of distinct places an entry is the only one of its place. -/
theorem eq_of_slot {l : List MergeEntry} (h : (l.map MergeEntry.slot).Nodup) {e m : MergeEntry} (he : e ∈ l) (hm : m ∈ l)
    (hs : m.slot = e.slot) : m = e := List.inj_on_of_nodup_map h hm he hs

theorem dueMerge_at {s : State} {e : MergeEntry} {x y : MergeState} (he : e ∈ s.former.merges)
    (hnodup : (s.former.merges.map MergeEntry.slot).Nodup) (hr : reached s.tick e.deadline = true)
    (hs : e.state = x ∨ e.state = y) : dueMerge s e.slot x y = some e := by
  refine find?_unique he ?_ fun m hm hp => eq_of_slot hnodup he hm ?_
  · simpa [hr] using hs
  · simp only [Bool.and_eq_true, decide_eq_true_iff] at hp
    exact hp.1.1

theorem changeAxle_entries (e : MergeEntry) (g : Axle → Axle) (s : State) :
    (changeAxle e g s).veh.entries = withLinkedAxles e g s.veh.entries := by
  simp [changeAxle, changeVehicle_entries, withLinkedAxles, linkedTo]

theorem withLinkedAxles_at {e : MergeEntry} {g : Axle → Axle} {before behind : List Vehicle} {v : Vehicle}
    (hv : v.number = e.vehicle) (hother : ∀ x ∈ before ++ behind, x.number ≠ e.vehicle) :
    withLinkedAxles e g (before ++ v :: behind) =
      before ++ { v with axles := changedAxles e g v.axles } :: behind := by
  have hkeep : ∀ l : List Vehicle, (∀ x ∈ l, x.number ≠ e.vehicle) → withLinkedAxles e g l = l := fun l hne =>
    (List.map_congr_left fun x hx => if_neg (hne x hx)).trans (List.map_id l)
  have hsplit : withLinkedAxles e g (before ++ v :: behind) =
      withLinkedAxles e g before ++ withLinkedAxles e g [v] ++ withLinkedAxles e g behind := by
    simp [withLinkedAxles]
  rw [hsplit, hkeep before fun x hx => hother x (by simp [hx]), hkeep behind fun x hx => hother x (by simp [hx])]
  simp [withLinkedAxles, hv, changedAxles]

/-- The linked merge entries once the wait of one of them has ended. -/
theorem freeMerge_merges (slot : Nat) (s : State) :
    (freeMerge slot s).former = { s.former with merges := s.former.merges.filter fun m => decide (m.slot ≠ slot) } := rfl

theorem hasLinked_freeMerge {s : State} {slot : Nat} {number : BitVec 16} :
    hasLinked number (freeMerge slot s) = true ↔
      ∃ m ∈ s.former.merges, m.vehicle = number ∧ m.slot ≠ slot ∧ m.state ≠ .ceded := by
  rw [hasLinked_iff, freeMerge_merges]
  simp only [List.mem_filter, decide_eq_true_iff]
  exact ⟨fun ⟨m, ⟨hm, hs⟩, hv, hc⟩ => ⟨m, hm, hv, hs, hc⟩, fun ⟨m, hm, hv, hs, hc⟩ => ⟨m, ⟨hm, hs⟩, hv, hc⟩⟩

theorem LeftClosing.of_veh {v : Vehicle} {axles : List Axle} {s t u : State} (h : LeftClosing v axles s t)
    (hentries : u.veh.entries = t.veh.entries) (horder : u.veh.closingOrder = t.veh.closingOrder) :
    LeftClosing v axles s u := by
  unfold LeftClosing at *
  rwa [hentries, horder]

/-- What a vehicle is classed with at the event is the same in every state that agrees on memory and screening flag. -/
theorem LeftClosing.of_start {v : Vehicle} {axles : List Axle} {s t u : State}
    (h : LeftClosing { v with axles := axles } axles u t) (horder : u.veh.closingOrder = s.veh.closingOrder)
    (hcal : u.cal = s.cal) (hscreen : u.screenOn = s.screenOn) : LeftClosing v axles s t := by
  have hinput : screenInput u = screenInput s := by simp [screenInput, hcal, hscreen]
  unfold LeftClosing at *
  rwa [horder, hcal, hinput] at h

/-- An entry freed at the end of its wait when no vehicle leaves CLOSING then. -/
theorem endTaken_stays {e : MergeEntry} {s : State} (h : NoneLeavesClosing e s) (g : Axle → Axle) :
    endTaken e g s = freeMerge e.slot (changeAxle e g s) := by
  refine leaveClosing_stays fun v hv hnum hs => hasLinked_freeMerge.2 ?_
  rw [freeMerge_veh, changeAxle_entries] at hv
  obtain ⟨x, hx, rfl⟩ := List.mem_map.1 hv
  rw [changeAxle_former]
  by_cases hxe : x.number = e.vehicle
  · rw [if_pos hxe] at hs
    exact h x hx hxe hs
  · rw [if_neg hxe] at hs hnum
    exact absurd hnum hxe

/-- An entry freed at the end of the last wait of its vehicle in CLOSING. -/
theorem endTaken_leaves {e : MergeEntry} {v : Vehicle} {before behind : List Vehicle} {s : State}
    (h : LastWaitOf e v before behind s) (haxles : v.axles ≠ []) (g : Axle → Axle) :
    LeftClosing v (changedAxles e g v.axles) s (endTaken e g s) := by
  obtain ⟨hl, hnum, hs, hother, hlast⟩ := h
  have hentries : (freeMerge e.slot (changeAxle e g s)).veh.entries =
      before ++ { v with axles := changedAxles e g v.axles } :: behind := by
    rw [freeMerge_veh, changeAxle_entries, hl, withLinkedAxles_at hnum hother]
  have hfree : hasLinked e.vehicle (freeMerge e.slot (changeAxle e g s)) = false := by
    rw [← Bool.not_eq_true, hasLinked_freeMerge, changeAxle_former]
    rintro ⟨m, hm, hv, hslot, hc⟩
    exact hc (hlast m hm hv hslot)
  have hleaves := leaveClosing_leaves hentries (by simpa [hnum] using hother) hs (hnum ▸ hfree) (by simpa [changedAxles])
  rw [show endTaken e g s = leaveClosing v.number (freeMerge e.slot (changeAxle e g s)) by rw [hnum]; rfl]
  exact hleaves.of_start rfl rfl rfl

theorem offerUrgent_counters (f : TxFrame) (s : State) :
    (offerUrgent f s).1.counters = s.counters ∨ (offerUrgent f s).1.counters = s.counters.bump .txDrop := by
  unfold offerUrgent
  (repeat' split) <;> simp [txDrop]

theorem offerOverload_counters (f : TxFrame) (s : State) :
    (offerOverload f s).1.counters = s.counters ∨ (offerOverload f s).1.counters = s.counters.bump .txDrop := by
  unfold offerOverload
  split
  · exact .inl rfl
  · exact offerUrgent_counters f s

theorem classVehicle_counters (v : Vehicle) (s : State) :
    (classVehicle v s).counters = s.counters ∨ (classVehicle v s).counters = s.counters.bump .txDrop := by
  unfold classVehicle
  dsimp only
  split
  · exact offerOverload_counters _ s
  · exact .inl rfl

/-- Of the counters, an entry that leaves CLOSING can raise TX_DROP and CEDED_WHOLE alone. -/
theorem leaveClosing_counters (number : BitVec 16) (s : State) :
    (leaveClosing number s).counters = s.counters ∨ (leaveClosing number s).counters = s.counters.bump .txDrop ∨
      (leaveClosing number s).counters = s.counters.bump .cededWhole := by
  unfold leaveClosing
  (repeat' split)
  · simp
  · rw [offerReady_counters]
    exact (classVehicle_counters _ (enterClosed number s)).imp_right .inl
  · simp
  · simp

/-- A counter that an entry leaving CLOSING does not touch. -/
theorem leaveClosing_counter {α : Type} (g : Counters → α) (hdrop : ∀ c, g (c.bump .txDrop) = g c)
    (hwhole : ∀ c, g (c.bump .cededWhole) = g c) (number : BitVec 16) (s : State) :
    g (leaveClosing number s).counters = g s.counters := by
  rcases leaveClosing_counters number s with h | h | h
  · rw [h]
  · rw [h, hdrop]
  · rw [h, hwhole]

theorem LeftClosing.endEvent {v : Vehicle} {axles : List Axle} {before s t : State} (h : LeftClosing v axles s t) :
    LeftClosing v axles s (endEvent before t) := h.of_veh (endEvent_entries _ _) (endEvent_closingOrder _ _)

/-! ### The waits at their deadlines (R73, R78, R81) -/

theorem giveUpMerge_eq (e : MergeEntry) (s : State) :
    giveUpMerge e s = endTaken e (fun a => { a with kind := .part, link := none }) s := rfl

theorem endTaken_former (e : MergeEntry) (g : Axle → Axle) (s : State) :
    (endTaken e g s).former = { s.former with merges := s.former.merges.filter fun m => decide (m.slot ≠ e.slot) } := by
  rw [endTaken, leaveClosing_former, freeMerge_merges]
  rfl

theorem exec_cederWaitExpiry_offered {s : State} {e : MergeEntry} (h : dueMerge s e.slot .offered .ceded = some e)
    (hs : e.state = .offered) : exec (.cederWaitExpiry e.slot) s = .next (endEvent s (giveUpMerge e s)) := by
  simp [exec, execCederWaitExpiry, h, hs]

theorem exec_cederWaitExpiry_ceded {s : State} {e : MergeEntry} (h : dueMerge s e.slot .offered .ceded = some e)
    (hs : e.state = .ceded) : exec (.cederWaitExpiry e.slot) s = .next (endEvent s (freeMerge e.slot s)) := by
  simp [exec, execCederWaitExpiry, h, hs]

theorem exec_ownerWaitExpiry {s : State} {e : MergeEntry} (h : dueMerge s e.slot .waiting .waiting = some e) :
    exec (.ownerWaitExpiry e.slot) s = .next (endEvent s (giveUpMerge e s)) := by
  simp [exec, execOwnerWaitExpiry, h]

theorem exec_confirmationWaitExpiry {s : State} {e : MergeEntry} (h : dueMerge s e.slot .taken .taken = some e) :
    exec (.confirmationWaitExpiry e.slot) s =
      .next (endEvent s (endTaken e (fun a => { a with unconfirmed := true, link := none }) (bump .unconfirmed s))) := by
  simp [exec, execConfirmationWaitExpiry, h]

/-- What the end of a wait leaves when no vehicle leaves CLOSING then. -/
theorem endTaken_stays_spec {e : MergeEntry} {before s : State} (h : NoneLeavesClosing e s) (g : Axle → Axle) :
    (endEvent before (endTaken e g s)).former =
        { s.former with merges := s.former.merges.filter fun m => decide (m.slot ≠ e.slot) } ∧
      (endEvent before (endTaken e g s)).veh.entries = withLinkedAxles e g s.veh.entries ∧
      (endEvent before (endTaken e g s)).counters = s.counters ∧ (endEvent before (endTaken e g s)).link = s.link ∧
      SameMeasuring s (endEvent before (endTaken e g s)) := by
  rw [endTaken_stays h]
  refine ⟨?_, ?_, by simp, by simp, by simp [SameMeasuring]⟩
  · simp [freeMerge_merges]
  · rw [endEvent_entries, freeMerge_veh, changeAxle_entries]

/-- What the end of the last wait of a vehicle in CLOSING leaves. -/
theorem endTaken_leaves_spec {e : MergeEntry} {v : Vehicle} {before behind : List Vehicle} {x s : State}
    (h : LastWaitOf e v before behind s) (haxles : v.axles ≠ []) (g : Axle → Axle) :
    (endEvent x (endTaken e g s)).former =
        { s.former with merges := s.former.merges.filter fun m => decide (m.slot ≠ e.slot) } ∧
      LeftClosing v (changedAxles e g v.axles) s (endEvent x (endTaken e g s)) ∧
      SameMeasuring s (endEvent x (endTaken e g s)) :=
  ⟨by rw [endEvent_former, endTaken_former], (endTaken_leaves h haxles g).endEvent, by simp [SameMeasuring]⟩

/-- Settles O35, by the state of the entry and whether its vehicle leaves CLOSING. -/
theorem mergeWaitsEndAtTheirDeadline : Obligations.MergeWaitsEndAtTheirDeadline := by
  unfold Obligations.MergeWaitsEndAtTheirDeadline
  intro s e he hnodup hr
  have hdue : ∀ {x y : MergeState}, e.state = x ∨ e.state = y → dueMerge s e.slot x y = some e := dueMerge_at he hnodup hr
  refine ⟨fun hs => ?_, fun hnone => ⟨fun hs => ?_, fun hs => ?_, fun hs => ?_⟩,
    fun v before behind hlast haxles => ⟨fun hs => ?_, fun hs => ?_, fun hs => ?_⟩⟩
  · exact ⟨_, exec_cederWaitExpiry_ceded (hdue (.inr hs)) hs, by simp [freeMerge_merges], by simp, by simp, by simp,
      by simp [SameMeasuring]⟩
  · exact ⟨_, exec_cederWaitExpiry_offered (hdue (.inl hs)) hs, endTaken_stays_spec hnone _⟩
  · exact ⟨_, exec_ownerWaitExpiry (hdue (.inl hs)), endTaken_stays_spec hnone _⟩
  · exact ⟨_, exec_confirmationWaitExpiry (hdue (.inl hs)), endTaken_stays_spec (s := bump .unconfirmed s) hnone _⟩
  · exact ⟨_, exec_cederWaitExpiry_offered (hdue (.inl hs)) hs, endTaken_leaves_spec hlast haxles _⟩
  · exact ⟨_, exec_ownerWaitExpiry (hdue (.inl hs)), endTaken_leaves_spec hlast haxles _⟩
  · obtain ⟨hformer, hleft, hsame⟩ := endTaken_leaves_spec (x := s) (s := bump .unconfirmed s) hlast haxles
      (fun a => { a with unconfirmed := true, link := none })
    refine ⟨_, exec_confirmationWaitExpiry (hdue (.inl hs)), hformer, hleft, ?_, hsame⟩
    rw [endEvent_counters, endTaken, leaveClosing_counter Counters.unconfirmed (fun _ => rfl) fun _ => rfl]
    rfl

/-! ### Merge frames (R170, R171) -/

theorem mergeRef_of_singleton {f : RxFrame} {r : Byte} (h : f.payload = [r]) : mergeRef f = some r := by simp [mergeRef, h]

theorem mergeRef_of_length {f : RxFrame} (h : f.payload.length ≠ 1) : mergeRef f = none := by
  unfold mergeRef
  split
  · next r hr => simp [hr] at h
  · rfl

theorem onMerge_ref {kind : Byte} {effect : Byte → Byte → State → State} {s : State} {f : RxFrame} {rest : List RxFrame}
    {r : Byte} (h : AtFront kind f rest s) (hr : f.payload = [r]) :
    onMerge kind effect s = .next (endEvent s (effect r f.source (taken rest s))) := by
  simp [onMerge, deliver_front h, mergeRef_of_singleton hr]

theorem onMerge_malformed {kind : Byte} {effect : Byte → Byte → State → State} {s : State} {f : RxFrame}
    {rest : List RxFrame} (h : AtFront kind f rest s) (hr : f.payload.length ≠ 1) :
    onMerge kind effect s = .next (taken rest s) := by
  simp [onMerge, deliver_front h, mergeRef_of_length hr]

theorem takenEntry_at {s : State} {e : MergeEntry} {r partner : Byte} (he : e ∈ s.former.merges) (hs : e.state = .taken)
    (hr : e.ref = some r) (hp : e.partner = partner)
    (huniq : ∀ x ∈ s.former.merges, x.state = .taken → x.ref = some r → x.partner = partner → x = e) :
    takenEntry s r partner = some e := by
  refine find?_unique he (by simp [hs, hr, hp]) fun x hx hpx => ?_
  simp only [Bool.and_eq_true, decide_eq_true_iff] at hpx
  exact huniq x hx hpx.1.1 hpx.1.2 hpx.2

theorem takenEntry_none {s : State} {r partner : Byte}
    (h : ∀ x ∈ s.former.merges, x.state = .taken → x.ref = some r → x.partner ≠ partner) : takenEntry s r partner = none := by
  rw [takenEntry, List.find?_eq_none]
  intro x hx
  simp only [Bool.and_eq_true, decide_eq_true_iff]
  rintro ⟨⟨hs, hr⟩, hp⟩
  exact h x hx hs hr hp

/-- An axle inserted stands behind every axle that is not later, and ahead of the next (R84). -/
theorem placedByTime_insertAxle (a : Axle) (l : List Axle) : PlacedByTime a l (insertAxle a l) := by
  induction l with
  | nil => exact ⟨[], [], rfl, rfl, by simp, by simp⟩
  | cons b l ih =>
    unfold insertAxle
    split
    · next hb => exact ⟨[], b :: l, rfl, rfl, by simp, by simpa using hb⟩
    · next hb =>
      obtain ⟨l1, l2, rfl, hins, hbefore, hnext⟩ := ih
      exact ⟨b :: l1, l2, rfl, by rw [hins]; rfl, by simpa using ⟨Bool.eq_false_iff.2 hb, hbefore⟩, hnext⟩

/-- A linked axle changed and moved, in the one entry of its number. -/
theorem moveAxle_at {s : State} {e : MergeEntry} {v : Vehicle} {before behind : List Vehicle} {older newer : List Axle}
    {a : Axle} (g : Axle → Axle) (b : Bool) (hl : s.veh.entries = before ++ v :: behind) (hv : v.number = e.vehicle)
    (hother : ∀ x ∈ before ++ behind, x.number ≠ e.vehicle) (haxles : v.axles = older ++ a :: newer)
    (ha : a.link = some e.slot) (holder : ∀ x ∈ older, x.link ≠ some e.slot) :
    (moveAxle e g b s).veh.entries =
      before ++ { v with axles := insertAxle (g a) (older ++ newer), uncalibrated := v.uncalibrated || b } :: behind := by
  have htake : takeFirst (linkedTo e.slot) v.axles = some (a, older ++ newer) := by
    rw [haxles]
    exact takeFirst_at _ _ _ _ (fun x hx => by simpa [linkedTo] using holder x hx) (by simp [linkedTo, ha])
  rw [moveAxle, ← hv, changeVehicle_at _ hl (hv ▸ hother), htake]

/-! ### MERGE_CEDE and MERGE_REFUSE (R79, R80) -/

theorem mergeConflict_spec (s : State) :
    (mergeConflict s).counters = s.counters.bump .mergeConflict ∧ (mergeConflict s).raised.mergeConflict = true := ⟨rfl, rfl⟩

/-- Settles O38, by the frame and whether its entry is there. -/
theorem cedeConfirmsAndRefuseReverts : Obligations.CedeConfirmsAndRefuseReverts := by
  unfold Obligations.CedeConfirmsAndRefuseReverts
  refine ⟨fun s f rest hlen => ⟨fun h => onMerge_malformed h hlen, fun h => onMerge_malformed h hlen⟩,
    fun s f rest r e h hr he hs href hp huniq => ?_,
    fun s f rest r e v before behind older newer a h hr he hs href hp huniq hl hv hother haxles ha holder => ?_,
    fun s f rest r h hr hnone => ?_, fun s f rest r h hr hnone => ?_⟩
  · have hexec : exec .mergeCedeReceived s = .next (endEvent s (endTaken e (fun a => { a with link := none }) (taken rest s))) := by
      have htaken : takenEntry (taken rest s) r f.source = some e := takenEntry_at he hs href hp huniq
      rw [exec_mergeCedeReceived, onMerge_ref h hr, takeCede, htaken]
    refine ⟨fun hnone => ⟨_, hexec, endTaken_stays_spec (s := taken rest s) hnone _⟩, fun v before behind hlast haxles => ?_⟩
    obtain ⟨hformer, hleft, hsame⟩ := endTaken_leaves_spec (x := s) (s := taken rest s) hlast haxles
      (fun a => { a with link := none })
    refine ⟨_, hexec, hformer, hleft, ?_, hsame⟩
    rw [endEvent_link, line_rxQueue (endTaken_line _ _ _)]
    rfl
  · have htaken : takenEntry (taken rest s) r f.source = some e := takenEntry_at he hs href hp huniq
    generalize hz : freeMerge e.slot (moveAxle e (revertedAxle e.own) false (taken rest s)) = z
    have hexec : exec .mergeRefuseReceived s = .next (endEvent s (mergeConflict (leaveClosing e.vehicle z))) := by
      rw [exec_mergeRefuseReceived, onMerge_ref h hr, takeRefuse, htaken, ← hz]
    have hentries : z.veh.entries =
        before ++ { v with axles := insertAxle (revertedAxle e.own a) (older ++ newer) } :: behind := by
      have hmove := moveAxle_at (s := taken rest s) (revertedAxle e.own) false hl hv hother haxles ha holder
      rw [Bool.or_false] at hmove
      rw [← hz]; exact hmove
    have hlinks : ∀ n, hasLinked n z = true ↔ ∃ m ∈ s.former.merges, m.vehicle = n ∧ m.slot ≠ e.slot ∧ m.state ≠ .ceded :=
      fun n => by rw [← hz]; exact hasLinked_freeMerge
    have hcounters : z.counters = s.counters := by rw [← hz]; rfl
    refine ⟨_, insertAxle (revertedAxle e.own a) (older ++ newer), hexec, ?_, placedByTime_insertAxle _ _,
      fun hnone => ?_, fun hlast => ⟨?_, ?_⟩, ?_, ?_, ?_⟩
    · rw [endEvent_former, ← hz]; simp [freeMerge_merges, moveAxle, changeVehicle]
    · have hstays : leaveClosing e.vehicle z = z := leaveClosing_stays fun x hx hnum hstate => by
        rw [hentries] at hx
        rcases List.mem_append.1 hx with hx | hx
        · exact absurd hnum (hother x (by simp [hx]))
        rcases List.mem_cons.1 hx with rfl | hx
        · exact (hlinks _).2 (hnone v (by simp [hl]) hv hstate)
        · exact absurd hnum (hother x (by simp [hx]))
      rw [hstays, endEvent_entries, endEvent_counters]
      exact ⟨hentries, hcounters ▸ rfl⟩
    · obtain ⟨-, -, hstate, -, hlastWait⟩ := hlast
      have hfree : hasLinked v.number z = false := by
        rw [← Bool.not_eq_true, hlinks, hv]
        rintro ⟨m, hm, hmv, hslot, hc⟩
        exact hc (hlastWait m hm hmv hslot)
      have hleaves := leaveClosing_leaves hentries (hv ▸ hother) hstate hfree (List.ne_nil_of_mem (mem_insertAxle _ _))
      have hstart : LeftClosing v (insertAxle (revertedAxle e.own a) (older ++ newer)) s (leaveClosing v.number z) :=
        hleaves.of_start (by rw [← hz]; rfl) (by rw [← hz]; rfl) (by rw [← hz]; rfl)
      rw [← hv]
      exact (hstart.of_veh (u := mergeConflict _) rfl rfl).endEvent
    · rw [endEvent_counters, (mergeConflict_spec _).1]
      exact congrArg satInc ((leaveClosing_counter Counters.mergeConflict (fun _ => rfl) (fun _ => rfl) _ z).trans
        (hcounters ▸ rfl))
    · rw [endEvent_raised]; rfl
    · rw [endEvent_link, line_rxQueue ((mergeConflict_line _).trans (leaveClosing_line _ _)), ← hz]
      rfl
    · rw [← hz]; simp [SameMeasuring]
  · have htaken : takenEntry (taken rest s) r f.source = none := takenEntry_none hnone
    refine ⟨_, by rw [exec_mergeCedeReceived, onMerge_ref h hr, takeCede, htaken], ?_⟩
    simp [SameMeasuring, mergeConflict_spec]
  · have htaken : takenEntry (taken rest s) r f.source = none := takenEntry_none hnone
    refine ⟨_, by rw [exec_mergeRefuseReceived, onMerge_ref h hr, takeRefuse, htaken], ?_⟩
    simp [SameMeasuring, mergeConflict_spec]

end Sys2Proof.Machine

namespace Sys2Proof.Machine

open Sys2Proof

/-! MERGE_TAKE at the ceder (O37). -/

/-- A ceder entry of that reference and partner, OFFERED or CEDED. -/
theorem cederEntry_at {s : State} {e : MergeEntry} {r partner : Byte} (he : e ∈ s.former.merges)
    (hs : e.state = .offered ∨ e.state = .ceded) (hr : e.ref = some r) (hp : e.partner = partner)
    (huniq : ∀ x ∈ s.former.merges, (x.state = .offered ∨ x.state = .ceded) → x.ref = some r → x.partner = partner → x = e) :
    cederEntry s r partner = some e := by
  refine find?_unique he (by simpa [hr, hp] using hs) fun x hx hpx => ?_
  simp only [Bool.and_eq_true, Bool.or_eq_true, decide_eq_true_iff] at hpx
  exact huniq x hx hpx.1.1 hpx.1.2 hpx.2

theorem cederEntry_none {s : State} {r partner : Byte}
    (h : ∀ x ∈ s.former.merges, (x.state = .offered ∨ x.state = .ceded) → x.ref = some r → x.partner ≠ partner) :
    cederEntry s r partner = none := by
  rw [cederEntry, List.find?_eq_none]
  intro x hx
  simp only [Bool.and_eq_true, Bool.or_eq_true, decide_eq_true_iff]
  rintro ⟨⟨hs, hr⟩, hp⟩
  exact h x hx hs hr hp

theorem sendMerge_room {s : State} (h : s.link.queue.length < 16) (k : FrameKind) (dst r : Byte) :
    sendMerge k dst r s = s.withLink { s.link with queue := s.link.queue ++ [mkFrame k dst [r]] } := by
  rw [sendMerge, offerUrgent_room h]

/-! ### Frames that nothing displaces -/

/-- A frame that no admission displaces and that clears no notice: neither of class 2 nor a VEHICLE frame. -/
def Kept (f : TxFrame) : Prop := frameClass f.kind ≠ 2 ∧ f.kind ≠ .vehicle ∧ f.clears = []

theorem mem_raise {n : Notice} {s : State} {f : TxFrame} (hf : f.clears = []) (h : f ∈ s.link.queue) :
    f ∈ (raise n s).link.queue :=
  List.mem_map.2 ⟨f, h, by rw [hf]; cases f; simp_all⟩

theorem mem_dropFirst {α : Type} {p : α → Bool} {l : List α} {a : α} (h : a ∈ l) (hp : p a = false) : a ∈ dropFirst p l := by
  induction l with
  | nil => cases h
  | cons b l ih =>
    unfold dropFirst
    rcases List.mem_cons.1 h with rfl | h
    · simp [hp]
    · split
      · exact h
      · exact List.mem_cons_of_mem _ (ih h)

theorem mem_dropLast {α : Type} {p : α → Bool} {l : List α} {a : α} (h : a ∈ l) (hp : p a = false) : a ∈ dropLast p l := by
  simpa [dropLast] using mem_dropFirst (l := l.reverse) (by simpa using h) hp

theorem Kept.offerUrgent {g f : TxFrame} {s : State} (hg : Kept g) (h : g ∈ s.link.queue) :
    g ∈ (offerUrgent f s).1.link.queue := by
  obtain ⟨hclass, hkind, hclears⟩ := hg
  unfold Machine.offerUrgent
  (repeat' split)
  · simp [takePlace, h]
  · refine List.mem_append_left _ (mem_raise hclears ?_)
    exact mem_dropFirst h (by simp [classTwoWaiting, hclass])
  · have hdrop : g ∈ dropLast vehicleWaiting s.link.queue := mem_dropLast h (by simp [vehicleWaiting, hkind])
    simp [takePlace, hdrop]
  · exact mem_raise hclears h
  · exact h

theorem Kept.offerList {g : TxFrame} {s : State} (h : g ∈ s.link.queue) (l : List (BitVec 16)) :
    g ∈ (offerList l s).link.queue := by
  induction l generalizing s with
  | nil => exact h
  | cons number l ih =>
    unfold Machine.offerList
    split
    · split_ifs
      · exact ih (List.mem_append_left _ h)
      · exact h
      · exact ih h
    · exact ih h

theorem Kept.offerOverload {g f : TxFrame} {s : State} (hg : Kept g) (h : g ∈ s.link.queue) :
    g ∈ (offerOverload f s).1.link.queue := by
  unfold Machine.offerOverload
  split
  · exact h
  · exact hg.offerUrgent h

theorem Kept.classVehicle {g : TxFrame} {s : State} (hg : Kept g) (h : g ∈ s.link.queue) (v : Vehicle) :
    g ∈ (classVehicle v s).link.queue := by
  unfold Machine.classVehicle
  dsimp only
  split
  · exact hg.offerOverload h
  · exact h

theorem Kept.leaveClosing {g : TxFrame} {s : State} (hg : Kept g) (h : g ∈ s.link.queue) (number : BitVec 16) :
    g ∈ (leaveClosing number s).link.queue := by
  unfold Machine.leaveClosing
  (repeat' split)
  · exact h
  · exact Kept.offerList (hg.classVehicle (s := enterClosed number s) h _) _
  · exact h
  · exact h

/-! ### A MERGE_TAKE (R72) -/

/-- The linked merge entries once one of them is CEDED. -/
theorem hasLinked_ceded {s z : State} {slot : Nat} {number : BitVec 16}
    (hz : z.former.merges = s.former.merges.map fun m => if m.slot = slot then { m with state := .ceded } else m) :
    hasLinked number z = true ↔ ∃ m ∈ s.former.merges, m.vehicle = number ∧ m.slot ≠ slot ∧ m.state ≠ .ceded := by
  rw [hasLinked_iff, hz]
  constructor
  · rintro ⟨m, hm, hv, hc⟩
    obtain ⟨x, hx, rfl⟩ := List.mem_map.1 hm
    by_cases hslot : x.slot = slot
    · rw [if_pos hslot] at hc; exact absurd rfl hc
    · rw [if_neg hslot] at hv hc; exact ⟨x, hx, hv, hslot, hc⟩
  · rintro ⟨m, hm, hv, hslot, hc⟩
    exact ⟨m, List.mem_map.2 ⟨m, hm, if_neg hslot⟩, hv, hc⟩

/-- The station as a cede leaves it before its vehicle may leave CLOSING. -/
def ceded (e : MergeEntry) (r partner : Byte) (s : State) : State :=
  bump .mergesCeded (sendMerge .mergeCede partner r
    (removeAxle e (changeMerge e.slot (fun m => { m with state := .ceded }) s)))

theorem takeTake_offered {s : State} {e : MergeEntry} {r partner : Byte} (h : cederEntry s r partner = some e)
    (hs : e.state = .offered) : takeTake r partner s = leaveClosing e.vehicle (ceded e r partner s) := by
  simp [takeTake, h, hs, ceded]

theorem takeTake_ceded {s : State} {e : MergeEntry} {r partner : Byte} (h : cederEntry s r partner = some e)
    (hs : e.state = .ceded) : takeTake r partner s = sendMerge .mergeCede partner r s := by
  simp [takeTake, h, hs]

/-- A cede, block by block. -/
theorem ceded_spec {e : MergeEntry} {r partner : Byte} {s : State} (hroom : s.link.queue.length < 16) :
    (ceded e r partner s).former = { s.former with
        merges := s.former.merges.map fun m => if m.slot = e.slot then { m with state := .ceded } else m } ∧
      (ceded e r partner s).veh.entries = (s.veh.entries.map fun v =>
        if v.number = e.vehicle then { v with axles := v.axles.filter fun a => !decide (a.link = some e.slot) } else v) ∧
      (ceded e r partner s).veh.rest = s.veh.rest ∧
      (ceded e r partner s).link = { s.link with queue := s.link.queue ++ [mkFrame .mergeCede partner [r]] } ∧
      (ceded e r partner s).counters = s.counters.bump .mergesCeded ∧ (ceded e r partner s).cal = s.cal ∧
      (ceded e r partner s).screenOn = s.screenOn ∧ SameMeasuring s (ceded e r partner s) := by
  rw [ceded, sendMerge_room (by simpa using hroom)]
  exact ⟨rfl, rfl, rfl, rfl, rfl, rfl, rfl, by simp [SameMeasuring]⟩

/-- What a MERGE_TAKE for an OFFERED entry leaves, in a state that agrees with its cede on all its blocks. -/
theorem leaveClosing_ceded_stays {e : MergeEntry} {s z : State} (hformer : z.former.merges = s.former.merges.map fun m =>
      if m.slot = e.slot then { m with state := .ceded } else m)
    (hentries : z.veh.entries = s.veh.entries.map fun v =>
      if v.number = e.vehicle then { v with axles := v.axles.filter fun a => !decide (a.link = some e.slot) } else v)
    (hnone : NoneLeavesClosing e s) : leaveClosing e.vehicle z = z :=
  leaveClosing_stays fun x hx hnum hstate => by
    rw [hentries] at hx
    obtain ⟨y, hy, rfl⟩ := List.mem_map.1 hx
    by_cases hye : y.number = e.vehicle
    · rw [if_pos hye] at hstate
      exact (hasLinked_ceded hformer).2 (hnone y hy hye hstate)
    · rw [if_neg hye] at hnum
      exact absurd hnum hye

/-- The entries once the linked axle has left the one vehicle of its number. -/
theorem removed_at {e : MergeEntry} {v : Vehicle} {before behind : List Vehicle} (hv : v.number = e.vehicle)
    (hother : ∀ x ∈ before ++ behind, x.number ≠ e.vehicle) :
    ((before ++ v :: behind).map fun v =>
      if v.number = e.vehicle then { v with axles := v.axles.filter fun a => !decide (a.link = some e.slot) } else v) =
      before ++ { v with axles := v.axles.filter fun a => !decide (a.link = some e.slot) } :: behind := by
  have hkeep : ∀ l : List Vehicle, (∀ x ∈ l, x.number ≠ e.vehicle) → (l.map fun v =>
      if v.number = e.vehicle then { v with axles := v.axles.filter fun a => !decide (a.link = some e.slot) } else v) = l :=
    fun l hl => (List.map_congr_left fun x hx => if_neg (hl x hx)).trans (List.map_id _)
  rw [List.map_append, List.map_cons, if_pos hv, hkeep _ fun x hx => hother x (by simp [hx]),
    hkeep _ fun x hx => hother x (by simp [hx])]

theorem raise_queue_map {α : Type} (g : TxFrame → α) (hg : ∀ f l, g { f with clears := l } = g f) (n : Notice) (s : State) :
    (raise n s).link.queue.map g = s.link.queue.map g := by
  simp [raise, List.map_map, Function.comp_def, hg]

theorem kept_mergeCede (partner r : Byte) : Kept (mkFrame .mergeCede partner [r]) :=
  ⟨by simp [mkFrame, frameClass], by simp [mkFrame], rfl⟩

/-- Settles O37, by the entry that the MERGE_TAKE finds. -/
theorem mergeTakeIsCededOrRefused : Obligations.MergeTakeIsCededOrRefused := by
  unfold Obligations.MergeTakeIsCededOrRefused
  refine ⟨fun s f rest h hlen => onMerge_malformed h hlen, fun s f rest r h hroom hr => ⟨fun e he hs href hp huniq => ?_,
    fun e he hs href hp huniq => ?_, fun hnone => ?_⟩⟩
  · have hentry : cederEntry (taken rest s) r f.source = some e := cederEntry_at he (.inl hs) href hp huniq
    have hexec : exec .mergeTakeReceived s =
        .next (endEvent s (leaveClosing e.vehicle (ceded e r f.source (taken rest s)))) := by
      rw [exec_mergeTakeReceived, onMerge_ref h hr, takeTake_offered hentry hs]
    obtain ⟨hformer, hentries, hrest, hlink, hcounters, hcal, hscreen, hsame⟩ :=
      ceded_spec (e := e) (r := r) (partner := f.source) (s := taken rest s) hroom
    generalize ceded e r f.source (taken rest s) = z at *
    have hmerges : z.former.merges = s.former.merges.map fun m => if m.slot = e.slot then { m with state := .ceded } else m := by
      rw [hformer]; rfl
    have hsame' : SameMeasuring s (endEvent s (leaveClosing e.vehicle z)) := by
      simpa [SameMeasuring, taken] using hsame
    refine ⟨fun hnone => ?_, fun v before behind axles hlast hax => ?_⟩
    · rw [leaveClosing_ceded_stays hmerges hentries hnone] at hexec hsame'
      refine ⟨_, hexec, ?_, ?_, ?_, ?_, ?_, hsame'⟩
      · rw [endEvent_former, hformer]; rfl
      · rw [endEvent_entries, hentries]; rfl
      · rw [endEvent_link, hlink]; rfl
      · rw [endEvent_link, hlink]; rfl
      · rw [endEvent_counters, hcounters]; rfl
    · obtain ⟨hl, hnum, hstate, hother, hlastWait⟩ := hlast
      have hat : z.veh.entries = before ++ { v with axles := axles } :: behind := by
        rw [hentries, show (taken rest s).veh.entries = _ from hl, removed_at hnum hother, hax]
      have hfree : hasLinked v.number z = false := by
        rw [← Bool.not_eq_true, hasLinked_ceded hmerges, hnum]
        rintro ⟨m, hm, hmv, hslot, hc⟩
        exact hc (hlastWait m hm hmv hslot)
      refine ⟨_, hexec, ?_, ?_, ?_, fun hne => ⟨?_, ?_⟩, fun hnil => ?_, hsame'⟩
      · rw [endEvent_former, leaveClosing_former, hformer]; rfl
      · rw [endEvent_link]
        exact (kept_mergeCede _ _).leaveClosing (by simp [hlink]) _
      · rw [endEvent_link, line_rxQueue (leaveClosing_line _ _), hlink]; rfl
      · rw [← hnum]
        exact ((leaveClosing_leaves hat (hnum ▸ hother) hstate hfree hne).of_start (rest_closingOrder hrest) hcal
          hscreen).endEvent
      · rw [endEvent_counters, leaveClosing_counter Counters.mergesCeded (fun _ => rfl) fun _ => rfl, hcounters]; rfl
      · rw [endEvent_entries, endEvent_closingOrder, endEvent_link, endEvent_counters, ← hnum,
          leaveClosing_frees hat (hnum ▸ hother) hstate hfree hnil]
        refine ⟨rfl, ?_, ?_, ?_⟩
        · exact congrArg (List.filter _) (rest_closingOrder hrest)
        · exact congrArg Link.queue hlink
        · exact congrArg (Counters.bump · .cededWhole) hcounters
  · have hentry : cederEntry (taken rest s) r f.source = some e := cederEntry_at he (.inr hs) href hp huniq
    refine ⟨_, by rw [exec_mergeTakeReceived, onMerge_ref h hr, takeTake_ceded hentry hs,
      sendMerge_room (s := taken rest s) hroom], ?_⟩
    simp [SameMeasuring, taken, takenLink]
  · have hentry : cederEntry (taken rest s) r f.source = none := cederEntry_none hnone
    refine ⟨_, by rw [exec_mergeTakeReceived, onMerge_ref h hr, takeTake, hentry], ?_⟩
    simp only [sendMerge_room (s := taken rest s) hroom, endEvent_link, mergeConflict]
    refine ⟨?_, ?_, ?_, ?_, ?_, ?_, ?_, ?_⟩
    · rw [endEvent_former]; rfl
    · rw [endEvent_entries]; rfl
    · rw [raise_queue_map _ fun _ _ => rfl]; exact List.map_append
    · rw [raise_queue_map _ fun _ _ => rfl]; exact List.map_append
    · rw [raise_queue_map _ fun _ _ => rfl]; exact List.map_append
    · rw [endEvent_counters]; rfl
    · rw [endEvent_raised]; rfl
    · simp [SameMeasuring, taken]

end Sys2Proof.Machine

namespace Sys2Proof.Machine

open Sys2Proof

/-! The commands of the site link (O54, O55, O59). -/

/-- A reply given at once when the command leaves the receive queue. -/
theorem replyTo_taken {s : State} (h : s.link.queue.length < 16) (f : RxFrame) (code : ReplyCode) (table : Byte)
    (rest : List RxFrame) : replyTo f code table (taken rest s) =
      s.withLink { takenLink rest s with queue := answered f code table s.link.queue } :=
  replyTo_room (s := taken rest s) h

theorem addressed_of {f : RxFrame} (hd : f.dest ≠ 255) : addressed f = true := decide_eq_true hd

theorem not_addressed {f : RxFrame} (hd : f.dest = 255) : addressed f = false := decide_eq_false (not_not.2 hd)

theorem sendReply_room {s : State} (h : s.link.queue.length < 16) (dst kind : Byte) (code : ReplyCode) (table : Byte) :
    sendReply dst kind code table s =
      s.withLink { s.link with queue := s.link.queue ++ [replyFrame dst kind code table] } := by
  rw [sendReply, offerPlain_room h]

theorem plainCommand_acts {effect : State → State} {f : RxFrame} (hp : f.payload = []) (s : State) :
    plainCommand effect f s = replyTo f .done noTable (effect s) := by simp [plainCommand, hp]

theorem plainCommand_refuses {effect : State → State} {f : RxFrame} (hp : f.payload ≠ []) (s : State) :
    plainCommand effect f s = replyTo f .field noTable s := by simp [plainCommand, hp, refuseField]

theorem memoryCommand_refuses {effect : RxFrame → State → State} {f : RxFrame} (hp : f.payload ≠ []) (s : State) :
    memoryCommand effect f s = replyTo f .field noTable s := by simp [memoryCommand, hp, refuseField]

theorem memoryCommand_acts {effect : RxFrame → State → State} {f : RxFrame} (hp : f.payload = []) (hd : f.dest ≠ 255)
    (s : State) : memoryCommand effect f s = effect f s := by
  simp [memoryCommand, hp, addressed_of hd]

theorem memoryCommand_ignores {effect : RxFrame → State → State} {f : RxFrame} (hp : f.payload = []) (hd : f.dest = 255)
    (s : State) : memoryCommand effect f s = s := by
  simp [memoryCommand, hp, not_addressed hd]

/-! ### HOLD, RESUME, TEMP_REQUEST, SCREEN and RESTART (R58, R110, R151, R179) -/

/-- A reply that finds no place is counted and QUEUE_LOSS raised (R150). -/
theorem replyTo_full {f : RxFrame} {s : State} (hd : f.dest ≠ 255) (h : s.link.queue.length = 16) (code : ReplyCode)
    (table : Byte) : replyTo f code table s = raise .queueLoss (bump .txDrop s) := by
  simp [replyTo, addressed_of hd, sendReply, offerPlain_eq, h]

theorem offerTemperature_room {s : State} (h : s.link.queue.length < 16) :
    offerTemperature s = (s.withTemp { s.temp with
        least := s.temp.value, greatest := s.temp.value, goodReadings := 0 }).withLink
      { s.link with queue := s.link.queue ++ [temperatureFrame s] } := by
  simp only [offerTemperature, offerPlain_room h]
  rfl

/-- Settles O54, command by command. -/
theorem linkCommandsActAndAnswer : Obligations.LinkCommandsActAndAnswer := by
  unfold Obligations.LinkCommandsActAndAnswer
  refine ⟨fun s f rest h hp hroom => ?_, fun s f rest h hp hd hfull => ?_, fun s f rest h hp hroom => ?_,
    fun s e he hr => ?_, fun s f rest h hp hroom => ?_, fun s f rest v h hp hv hroom => ?_, fun s f rest h hp hroom => ?_⟩
  · show onCommand 0x30 (plainCommand holdNow) s = _
    rw [onCommand_front _ h, plainCommand_acts hp, replyTo_room (s := holdNow (taken rest s)) hroom]
    rfl
  · refine ⟨raise .queueLoss (bump .txDrop (holdNow (taken rest s))), ?_, rfl, rfl, ?_, rfl, rfl, rfl, rfl⟩
    · show onCommand 0x30 (plainCommand holdNow) s = _
      rw [onCommand_front _ h, plainCommand_acts hp, replyTo_full (s := holdNow (taken rest s)) hd hfull]
    · rw [raise_queue_map _ fun _ _ => rfl]; rfl
  · show onCommand 0x31 (plainCommand endHold) s = _
    rw [onCommand_front _ h, plainCommand_acts hp, replyTo_room (s := endHold (taken rest s)) hroom]
    rfl
  · show execHoldTimerExpiry s = _
    rw [execHoldTimerExpiry, he, if_pos (isDue_iff.2 ⟨e, rfl, hr⟩)]
    rfl
  · have hroom' : (taken rest s).link.queue.length < 16 := Nat.lt_of_le_of_lt hroom (by decide)
    have hone : (offerTemperature (taken rest s)).link.queue.length < 16 := by
      rw [offerTemperature_room hroom']
      exact (List.length_append ..).trans_lt (Nat.lt_of_le_of_lt (Nat.add_le_add_right hroom 1) (by decide))
    show onCommand 0x32 (plainCommand offerTemperature) s = _
    rw [onCommand_front _ h, plainCommand_acts hp, replyTo_room hone, offerTemperature_room hroom']
    rfl
  · show onCommand 0x39 takeScreen s = _
    have hact : takeScreen f (taken rest s) = replyTo f .done noTable ((taken rest s).withScreenOn (decide (v = 1))) := by
      simp only [takeScreen, hp, if_neg (Nat.not_lt.2 hv)]
    rw [onCommand_front _ h, hact, replyTo_room (s := (taken rest s).withScreenOn (decide (v = 1))) hroom]
    rfl
  · show onCommand 0x3A takeRestart s = _
    rw [onCommand_front _ h]
    by_cases hd : f.dest = 255
    · simp only [takeRestart, hp, not_addressed hd, hd, if_true]
      rfl
    · have hoffer := offerPlain_room (f := restartReplyFrame f)
        (s := (taken rest s).withCtl { s.ctl with restartPending := true }) hroom
      have hreply : restartReplyFrame f = { mkFrame .reply f.source [0x3A, 0, 255] with restartReply := true } := by
        rw [restartReplyFrame, replyFrame, h.2.2.2]; rfl
      have hact : takeRestart f (taken rest s) =
          (offerPlain (restartReplyFrame f) ((taken rest s).withCtl { s.ctl with restartPending := true })).1 := by
        simp only [takeRestart, hp, addressed_of hd]
        rfl
      rw [hact, hoffer, hreply, if_neg hd]
      rfl

/-! ### Malformed commands (R177) -/

theorem takeTableRead_malformed {f : RxFrame} (h : f.payload.length ≠ 3) (s : State) :
    takeTableRead f s = replyTo f .field (f.payload.head?.getD 255) s := by
  unfold takeTableRead
  split
  · next hp => simp [hp] at h
  · rfl

theorem takeTableWrite_malformed {f : RxFrame} (h : f.payload.length < 2) (s : State) :
    takeTableWrite f s = replyTo f .field (f.payload.head?.getD 255) s := by
  unfold takeTableWrite
  split
  · next hp => simp [hp] at h
  · rfl

theorem takeTableCut_malformed {f : RxFrame} (h : f.payload.length ≠ 2) (s : State) :
    takeTableCut f s = replyTo f .field (f.payload.head?.getD 255) s := by
  unfold takeTableCut
  split
  · next hp => simp [hp] at h
  · rfl

theorem takeTableRead_ignores {f : RxFrame} (h : f.payload.length = 3) (hd : f.dest = 255) (s : State) :
    takeTableRead f s = s := by
  obtain ⟨t, start, count, hp⟩ := List.length_eq_three.1 h
  simp [takeTableRead, hp, not_addressed hd]

theorem takeTableWrite_ignores {f : RxFrame} (h : 2 ≤ f.payload.length) (hd : f.dest = 255) (s : State) :
    takeTableWrite f s = s := by
  unfold takeTableWrite
  split
  · simp [not_addressed hd]
  · next hno =>
    exfalso
    rcases hp : f.payload with _ | ⟨t, _ | ⟨index, entry⟩⟩
    · simp [hp] at h
    · simp [hp] at h
    · exact hno _ _ _ hp

theorem takeTableCut_ignores {f : RxFrame} (h : f.payload.length = 2) (hd : f.dest = 255) (s : State) :
    takeTableCut f s = s := by
  obtain ⟨t, count, hp⟩ := List.length_eq_two.1 h
  simp [takeTableCut, hp, not_addressed hd]

theorem takeScreen_refuses {f : RxFrame} (h : ∀ v, f.payload = [v] → 1 < v.toNat) (s : State) :
    takeScreen f s = replyTo f .field noTable s := by
  unfold takeScreen
  split
  · next v hv => rw [if_pos (h v hv)]; rfl
  · rfl

theorem takeRezero_refuses {f : RxFrame} (h : ∀ b, f.payload = [b] → b = 0 ∨ 15 < b.toNat) (s : State) :
    takeRezero f s = replyTo f .field noTable s := by
  unfold takeRezero
  split
  · next b hb => rw [if_pos (by simpa [rezeroMalformed] using h b hb)]; rfl
  · rfl

theorem takeRestart_refuses {f : RxFrame} (hp : f.payload ≠ []) (s : State) :
    takeRestart f s = replyTo f .field noTable s := by simp [takeRestart, hp, refuseField]

/-- Settles O55, command by command. -/
theorem malformedCommandsAreRefusedField : Obligations.MalformedCommandsAreRefusedField := by
  unfold Obligations.MalformedCommandsAreRefusedField
  refine ⟨fun c kind s f rest hc h hroom hp => ?_, fun s f rest h hroom hv => ?_, fun s f rest h hroom hb => ?_,
    fun c kind s f rest hc h hroom => ?_, fun c kind s f rest hc h hd => ?_⟩
  · have hplain : ∀ effect, onCommand kind (plainCommand effect) s =
        .next (s.withLink { takenLink rest s with queue := answered f .field 255 s.link.queue }) := fun effect => by
      rw [onCommand_front _ h, plainCommand_refuses hp, replyTo_taken hroom]; rfl
    have hmemory : ∀ effect, onCommand kind (memoryCommand effect) s =
        .next (s.withLink { takenLink rest s with queue := answered f .field 255 s.link.queue }) := fun effect => by
      rw [onCommand_front _ h, memoryCommand_refuses hp, replyTo_taken hroom]; rfl
    simp only [List.mem_cons, List.not_mem_nil, or_false, Prod.mk.injEq] at hc
    rcases hc with ⟨rfl, rfl⟩ | ⟨rfl, rfl⟩ | ⟨rfl, rfl⟩ | ⟨rfl, rfl⟩ | ⟨rfl, rfl⟩ | ⟨rfl, rfl⟩
    · exact hplain _
    · exact hplain _
    · exact hplain _
    · exact hmemory _
    · exact hmemory _
    · exact (onCommand_front _ h).trans (by rw [takeRestart_refuses hp, replyTo_taken hroom]; rfl)
  · exact (onCommand_front _ h).trans (by rw [takeScreen_refuses hv, replyTo_taken hroom]; rfl)
  · exact (onCommand_front _ h).trans (by rw [takeRezero_refuses hb, replyTo_taken hroom]; rfl)
  · rcases hc with ⟨rfl, rfl, hlen⟩ | ⟨rfl, rfl, hlen⟩ | ⟨rfl, rfl, hlen⟩
    · exact (onCommand_front _ h).trans (by rw [takeTableRead_malformed hlen, replyTo_taken hroom])
    · exact (onCommand_front _ h).trans (by rw [takeTableWrite_malformed hlen, replyTo_taken hroom])
    · exact (onCommand_front _ h).trans (by rw [takeTableCut_malformed hlen, replyTo_taken hroom])
  · rcases hc with ⟨rfl, rfl, hlen⟩ | ⟨rfl, rfl, hlen⟩ | ⟨rfl, rfl, hlen⟩ | ⟨rfl, rfl, hp⟩ | ⟨rfl, rfl, hp⟩
    · exact (onCommand_front _ h).trans (by rw [takeTableRead_ignores hlen hd])
    · exact (onCommand_front _ h).trans (by rw [takeTableWrite_ignores hlen hd])
    · exact (onCommand_front _ h).trans (by rw [takeTableCut_ignores hlen hd])
    · exact (onCommand_front _ h).trans (by rw [memoryCommand_ignores hp hd])
    · exact (onCommand_front _ h).trans (by rw [memoryCommand_ignores hp hd])

/-! ### LOCK and ERASE (R165, R166) -/

theorem calBusy_iff {s : State} : calBusy s = true ↔ s.cal.activity ≠ .idle ∨ s.ctl.restartPending = true := by
  simp [calBusy]

theorem not_calBusy {s : State} (hidle : s.cal.activity = .idle) (hrestart : s.ctl.restartPending = false) :
    calBusy s = false := by simp [calBusy, hidle, hrestart]

/-- The tests of a LOCK, in their order. -/
theorem takeLock_answers {s : State} {f : RxFrame} {code : ReplyCode}
    (h : (code = .notAllowed ∧ s.straps.calEnable = false) ∨
      (code = .busy ∧ s.straps.calEnable = true ∧ (s.cal.activity ≠ .idle ∨ s.ctl.restartPending = true)) ∨
      (s.straps.calEnable = true ∧ s.cal.activity = .idle ∧ s.ctl.restartPending = false ∧
        ((code = .done ∧ s.cal.lock = true) ∨
          (code = .notAllowed ∧ s.cal.lock = false ∧ ∃ k, k ≤ 4 ∧ tablePresent s.cal k = false)))) :
    takeLock f s = replyTo f code 255 s := by
  unfold takeLock
  rcases h with ⟨rfl, hoff⟩ | ⟨rfl, hon, hbusy⟩ | ⟨hon, hidle, hrestart, ⟨rfl, hlock⟩ | ⟨rfl, hlock, k, hk, habsent⟩⟩
  · rw [if_pos hoff]; rfl
  · rw [if_neg (by simp [hon]), if_pos (calBusy_iff.2 hbusy)]; rfl
  · rw [if_neg (by simp [hon]), if_neg (by simp [not_calBusy hidle hrestart]), if_pos hlock]; rfl
  · have hany : ([0, 1, 2, 3, 4].all fun t => tablePresent s.cal t) = false := by
      rw [List.all_eq_false]
      exact ⟨k, by simp; omega, by simp [habsent]⟩
    rw [if_neg (by simp [hon]), if_neg (by simp [not_calBusy hidle hrestart]), if_neg (by simp [hlock]), if_pos hany]; rfl

theorem takeLock_locks {s : State} {f : RxFrame} (hon : s.straps.calEnable = true) (hidle : s.cal.activity = .idle)
    (hrestart : s.ctl.restartPending = false) (hlock : s.cal.lock = false)
    (hall : ∀ k, k ≤ 4 → tablePresent s.cal k = true) :
    takeLock f s = replyTo f .done 255 (s.withCal { s.cal with lock := true }) := by
  have hpresent : ([0, 1, 2, 3, 4].all fun t => tablePresent s.cal t) = true := by
    rw [List.all_eq_true]
    intro k hk
    exact hall k (by simp at hk; omega)
  simp only [takeLock, hon, not_calBusy hidle hrestart, hlock, hpresent]
  rfl

theorem takeErase_answers {s : State} {f : RxFrame} {code : ReplyCode}
    (h : (code = .notAllowed ∧ s.straps.calEnable = false) ∨
      (code = .busy ∧ s.straps.calEnable = true ∧ (s.cal.activity ≠ .idle ∨ s.ctl.restartPending = true))) :
    takeErase f s = replyTo f code 255 s := by
  unfold takeErase
  rcases h with ⟨rfl, hoff⟩ | ⟨rfl, hon, hbusy⟩
  · rw [if_pos hoff]; rfl
  · rw [if_neg (by simp [hon]), if_pos (calBusy_iff.2 hbusy)]; rfl

/-- Settles O59, test by test. -/
theorem lockAndEraseAct : Obligations.LockAndEraseAct := by
  unfold Obligations.LockAndEraseAct
  refine ⟨fun s f rest h hp hd hroom => ⟨fun code hcode => ?_, fun hon hidle hrestart hlock hall => ?_⟩,
    fun s f rest h hp hd hroom => ⟨fun code hcode => ?_, fun hon hidle hrestart => ?_⟩,
    fun s source begun hact hlater hroom => ?_⟩
  · refine (onCommand_front _ h).trans ?_
    rw [memoryCommand_acts hp hd, takeLock_answers (s := taken rest s) hcode, replyTo_taken hroom]
  · refine (onCommand_front _ h).trans ?_
    rw [memoryCommand_acts hp hd, takeLock_locks (s := taken rest s) hon hidle hrestart hlock hall,
      replyTo_room (s := (taken rest s).withCal _) hroom]
    rfl
  · refine (onCommand_front _ h).trans ?_
    rw [memoryCommand_acts hp hd, takeErase_answers (s := taken rest s) hcode, replyTo_taken hroom]
  · refine (onCommand_front _ h).trans ?_
    have hstrap : (taken rest s).straps.calEnable = true := hon
    simp only [memoryCommand_acts hp hd, takeErase, hstrap, not_calBusy (s := taken rest s) hidle hrestart]
    rfl
  · show execEraseComplete s = _
    simp only [execEraseComplete, hact, hlater, if_true, sendReply_room (s := s.withCal (erased s.cal)) hroom]
    rfl

end Sys2Proof.Machine

namespace Sys2Proof.Machine

open Sys2Proof

/-! The calibration memory's commands (O56 to O58). -/

/-! ### The completion of a write or cut (R154, R162, R163) -/

theorem changedEntries_entry {entries new : List (List Byte)} {index : Nat} {bytes : List Byte}
    (hset : index < entries.length → new = entries.set index bytes) (happend : index = entries.length → new = entries ++ [bytes])
    (h : index ≤ entries.length) : changedEntries entries (.entry index bytes) = new := by
  rw [changedEntries]
  split
  · next hlt => exact (hset hlt).symm
  · next hge => exact (happend (by omega)).symm

/-- The memory at the completion of a change that leaves those entries. -/
theorem completedCal_spec {c : CalMemory} {k : Nat} {change : Change} {entries : List (List Byte)}
    (hentries : changedEntries (tableEntries c k) change = entries) (hlen : c.tables.length = 13) (hk : k < 13) :
    storedTable (completedCal k change c) k = closedTable entries ∧
      (∀ j, j ≠ k → storedTable (completedCal k change c) j = storedTable c j) ∧
      (completedCal k change c).failed = c.failed.filter (fun j => decide (j ≠ k)) ∧
      (completedCal k change c).working = loadCopy k entries c.working := by
  subst hentries
  have htable : ∀ j, storedTable (completedCal k change c) j =
      storedTable { c with tables := c.tables.set k (closedTable (changedEntries (tableEntries c k) change)) } j := fun _ => rfl
  refine ⟨?_, fun j hj => ?_, rfl, rfl⟩
  · rw [htable, storedTable_set, if_pos ⟨rfl, hlen ▸ hk⟩]
  · rw [htable, storedTable_set, if_neg fun h => hj h.1.symm]

/-- The check byte of a stored table makes its bytes sum to 0 (R154). -/
theorem byteSum_add_check (entries : List (List Byte)) :
    byteSum (storedBytes entries.length entries) + (closedTable entries).check = 0 :=
  add_neg_cancel (byteSum (storedBytes entries.length entries))

/-- What a completion leaves, when a place is free for its REPLY. -/
theorem completeChange_spec {s : State} (kind : Byte) {k : Nat} {change : Change} (source : Byte)
    {entries : List (List Byte)} (hentries : changedEntries (tableEntries s.cal k) change = entries)
    (hlen : s.cal.tables.length = 13) (hk : k < 13) (hroom : RoomForReply s) :
    ∃ t, completeChange kind k change source s = t ∧
      (storedTable t.cal k).entries = entries ∧ (storedTable t.cal k).count = entries.length ∧
      (storedTable t.cal k).openMark = false ∧
      (entries ≠ [] → byteSum (storedBytes entries.length entries) + (storedTable t.cal k).check = 0) ∧
      (∀ j, j ≠ k → storedTable t.cal j = storedTable s.cal j) ∧
      t.cal.failed = s.cal.failed.filter (fun j => decide (j ≠ k)) ∧ t.cal.activity = .idle ∧
      t.cal.calibrated = calibratedNow t.cal ∧ t.cal.lock = s.cal.lock ∧ t.cal.eraseMarker = s.cal.eraseMarker ∧
      t.cal.working = loadCopy k entries s.cal.working ∧
      t.setup = s.setup ∧
      t.link = { s.link with queue := s.link.queue ++ [mkFrame .reply source [kind, 0, BitVec.ofNat 8 k]] } ∧
      t.counters = s.counters ∧ t.det = s.det ∧ t.temp = s.temp ∧ t.tick = s.tick ∧ t.veh = s.veh ∧ t.former = s.former := by
  obtain ⟨htable, hother, hfailed, hworking⟩ := completedCal_spec hentries hlen hk
  rw [completeChange, sendReply_room (s := s.withCal (completedCal k change s.cal)) hroom]
  refine ⟨_, rfl, ?_, ?_, ?_, fun _ => ?_, hother, hfailed, rfl, rfl, rfl, rfl, hworking, rfl, rfl, rfl, rfl, rfl, rfl,
    rfl, rfl⟩
  · exact congrArg Stored.entries htable
  · exact congrArg Stored.count htable
  · exact congrArg Stored.openMark htable
  · exact (congrArg (fun x => byteSum (storedBytes entries.length entries) + Stored.check x) htable).trans
      (byteSum_add_check entries)

/-- Settles O58, for a write and for a cut. -/
theorem completionsStoreTheTable : Obligations.CompletionsStoreTheTable := by
  unfold Obligations.CompletionsStoreTheTable
  intro s c kind k change source begun entries hact hlater hlen hk hroom hcase
  rcases hcase with ⟨index, bytes, rfl, rfl, rfl, hset, happend, hindex⟩ | ⟨n, rfl, rfl, rfl, rfl⟩
  · obtain ⟨t, ht, hspec⟩ := completeChange_spec 0x34 source (changedEntries_entry hset happend hindex) hlen hk hroom
    refine ⟨t, ?_, hspec⟩
    show execWriteComplete s = _
    simp only [execWriteComplete, hact, hlater, if_true, ht]
  · obtain ⟨t, ht, hspec⟩ := completeChange_spec 0x35 source (change := .cut n) rfl hlen hk hroom
    refine ⟨t, ?_, hspec⟩
    show execCutComplete s = _
    simp only [execCutComplete, hact, hlater, if_true, ht]

/-! ### TABLE_READ (R164) -/

theorem readBusy_iff {s : State} {k : Nat} : readBusy s k = true ↔
    (∃ source begun, s.cal.activity = .erasing source begun) ∨
      ∃ change source begun, s.cal.activity = .writing k change source begun := by
  unfold readBusy
  cases s.cal.activity with
  | idle => simp
  | writing j change source begun => simp
  | erasing source begun => simp

theorem inRange_false_iff {lo hi n : Nat} : inRange lo hi n = false ↔ n < lo ∨ hi < n := by
  rw [← Bool.not_eq_true, inRange_iff]; omega

theorem inRange_of {lo hi n : Nat} (hlo : lo ≤ n) (hhi : n ≤ hi) : inRange lo hi n = true :=
  (inRange_iff lo hi n).2 ⟨hlo, hhi⟩

/-- What a read reads of a present table. -/
theorem readEntries_table {s : State} {k : Nat} (hk : k ≤ 12) (hp : tablePresent s.cal k = true) :
    readEntries s k = (storedTable s.cal k).entries := by
  rw [readEntries, if_neg (by omega), tableEntries, if_pos hp]

theorem readEntries_counters (s : State) :
    readEntries s 13 = s.counters.values.map fun n => [BitVec.ofNat 8 (n / 256), BitVec.ofNat 8 n] := by
  rw [readEntries, if_pos rfl]
  exact List.map_congr_left fun n _ => by simp [bytesOf]

/-- A read that fails a test is refused by the first. -/
theorem readRefusal_of {s : State} {k start count : Nat} {code : ReplyCode}
    (h : (code = .range ∧ 13 < k) ∨ (code = .field ∧ k ≤ 13 ∧ (count < 1 ∨ 12 < count)) ∨
      (code = .busy ∧ k ≤ 13 ∧ 1 ≤ count ∧ count ≤ 12 ∧ readBusy s k = true) ∨
      (code = .absent ∧ k ≤ 12 ∧ 1 ≤ count ∧ count ≤ 12 ∧ readBusy s k = false ∧ tablePresent s.cal k = false) ∨
      (code = .range ∧ k ≤ 13 ∧ 1 ≤ count ∧ count ≤ 12 ∧ readBusy s k = false ∧
        (k = 13 ∨ tablePresent s.cal k = true) ∧ (readEntries s k).length ≤ start)) :
    readRefusal s k start count = some code := by
  unfold readRefusal
  rcases h with ⟨rfl, hk⟩ | ⟨rfl, hk, hc⟩ | ⟨rfl, hk, h1, h2, hb⟩ | ⟨rfl, hk, h1, h2, hb, hp⟩ |
    ⟨rfl, hk, h1, h2, hb, hp, hs⟩
  · rw [if_pos hk]
  · rw [if_neg (by omega), if_pos (inRange_false_iff.2 hc)]
  · rw [if_neg (by omega), if_neg (by simp [inRange_of h1 h2]), if_pos hb]
  · rw [if_neg (by omega), if_neg (by simp [inRange_of h1 h2]), if_neg (by simp [hb]), if_pos ⟨by omega, hp⟩]
  · have hpresent : ¬(k ≠ 13 ∧ tablePresent s.cal k = false) := by
      rcases hp with rfl | hp
      · simp
      · simp [hp]
    rw [if_neg (by omega), if_neg (by simp [inRange_of h1 h2]), if_neg (by simp [hb]), if_neg hpresent, if_pos hs]

theorem readRefusal_passes {s : State} {k start count : Nat} (hk : k ≤ 13) (h1 : 1 ≤ count) (h2 : count ≤ 12)
    (hb : readBusy s k = false) (hp : k = 13 ∨ tablePresent s.cal k = true) (hs : start < (readEntries s k).length) :
    readRefusal s k start count = none := by
  have hpresent : ¬(k ≠ 13 ∧ tablePresent s.cal k = false) := by
    rcases hp with rfl | hp
    · simp
    · simp [hp]
  rw [readRefusal, if_neg (by omega), if_neg (by simp [inRange_of h1 h2]), if_neg (by simp [hb]), if_neg hpresent,
    if_neg (by omega)]

/-- The TABLE_DATA frames of an answer, byte by byte. -/
theorem dataFrames_eq (dst : Byte) (k start : Nat) (l : List (List Byte)) :
    dataFrames dst k start l = (l.zipIdx start).map fun e => mkFrame .tableData dst
      (BitVec.ofNat 8 k :: BitVec.ofNat 8 e.2 :: (if e.2 + 1 = start + l.length then 1 else 0) :: e.1) := by
  refine List.map_congr_left fun e _ => ?_
  by_cases h : e.2 + 1 = start + l.length <;> simp [tableDataFrame, bytesOf, bit, h]

theorem bumpTimes_counters {s t : State} (h : s.counters = t.counters) (k : Counter) (n : Nat) :
    (bumpTimes k n s).counters = (bumpTimes k n t).counters := by
  induction n generalizing s t with
  | zero => exact h
  | succ n ih => exact ih (by simp [bump, h])

/-- Frames offered while places are free join the end in order. -/
theorem offerAll_room {l : List TxFrame} {s : State} (h : s.link.queue.length + l.length ≤ 16) :
    offerAll l s = s.withLink { s.link with queue := s.link.queue ++ l } := by
  induction l generalizing s with
  | nil =>
    show s = s.withLink { s.link with queue := s.link.queue ++ [] }
    rw [List.append_nil]
    rfl
  | cons f l ih =>
    rw [List.length_cons] at h
    have hfree : placeFree s = true := decide_eq_true (Nat.lt_of_lt_of_le (by omega : s.link.queue.length < 16) le_rfl)
    rw [offerAll, if_pos hfree, ih (by simp [takePlace, withQueue]; omega)]
    simp [takePlace, withQueue]

/-- A field of the frames that no raise changes, for frames offered one after another. -/
theorem offerAll_map {α : Type} (g : TxFrame → α) (hg : ∀ f l, g { f with clears := l } = g f) (l : List TxFrame) (s : State) :
    (offerAll l s).link.queue.map g = (s.link.queue ++ l.take (16 - s.link.queue.length)).map g := by
  induction l generalizing s with
  | nil => simp [offerAll]
  | cons f l ih =>
    unfold offerAll
    split
    · next hfree =>
      have hlt : s.link.queue.length < 16 := of_decide_eq_true hfree
      obtain ⟨n, hn⟩ : ∃ n, 16 - s.link.queue.length = n + 1 := ⟨15 - s.link.queue.length, by omega⟩
      rw [ih, hn, show 16 - (takePlace f s).link.queue.length = n by simp [takePlace, withQueue]; omega]
      simp [takePlace, withQueue]
    · next hfull =>
      have hle : 16 ≤ s.link.queue.length := Nat.le_of_not_lt fun h => hfull (decide_eq_true h)
      have hqueue : (txDrop s).link.queue.map g = s.link.queue.map g := raise_queue_map g hg _ _
      have hlen : (txDrop s).link.queue.length = s.link.queue.length := by simp [txDrop, raise]
      rw [ih, hlen, Nat.sub_eq_zero_of_le hle]
      simpa using hqueue

/-- The frames of an answer that find no place are counted one by one. -/
theorem offerAll_counters (l : List TxFrame) (s : State) :
    (offerAll l s).counters = (bumpTimes .txDrop (l.length - (16 - s.link.queue.length)) s).counters := by
  induction l generalizing s with
  | nil => simp [offerAll, bumpTimes]
  | cons f l ih =>
    unfold offerAll
    split
    · next hfree =>
      have hlt : s.link.queue.length < 16 := of_decide_eq_true hfree
      have hcount : l.length - (16 - (takePlace f s).link.queue.length) =
          (f :: l).length - (16 - s.link.queue.length) := by simp [takePlace, withQueue]; omega
      rw [ih, hcount]
      exact bumpTimes_counters (s := takePlace f s) (t := s) rfl _ _
    · next hfull =>
      have hle : 16 ≤ s.link.queue.length := Nat.le_of_not_lt fun h => hfull (decide_eq_true h)
      have hlen : (txDrop s).link.queue.length = s.link.queue.length := by simp [txDrop, raise]
      rw [ih, hlen, Nat.sub_eq_zero_of_le hle]
      exact bumpTimes_counters (s := txDrop s) (t := bump .txDrop s) rfl _ l.length

theorem offerAll_raised (l : List TxFrame) (s : State) :
    (l.length ≤ 16 - s.link.queue.length → (offerAll l s).raised = s.raised) ∧
      (16 - s.link.queue.length < l.length → (offerAll l s).raised = { s.raised with queueLoss := true }) := by
  induction l generalizing s with
  | nil => simp [offerAll]
  | cons f l ih =>
    unfold offerAll
    split
    · next hfree =>
      have hlt : s.link.queue.length < 16 := of_decide_eq_true hfree
      have hlen : (takePlace f s).link.queue.length = s.link.queue.length + 1 := by simp [takePlace, withQueue]
      obtain ⟨hroom, hfull⟩ := ih (takePlace f s)
      rw [hlen] at hroom hfull
      exact ⟨fun h => hroom (by simp at h; omega), fun h => hfull (by simp at h; omega)⟩
    · next hfull =>
      have hle : 16 ≤ s.link.queue.length := Nat.le_of_not_lt fun h => hfull (decide_eq_true h)
      have hraised : (txDrop s).raised = { s.raised with queueLoss := true } := rfl
      obtain ⟨hroom, hmore⟩ := ih (txDrop s)
      refine ⟨fun h => by simp at h; omega, fun _ => ?_⟩
      by_cases hl : l.length ≤ 16 - (txDrop s).link.queue.length
      · rw [hroom hl, hraised]
      · rw [hmore (Nat.lt_of_not_le hl), hraised]

theorem takeTableRead_reads {f : RxFrame} {k start count : Byte} (hp : f.payload = [k, start, count]) (hd : f.dest ≠ 255)
    (s : State) : takeTableRead f s = tableRead f k.toNat start.toNat count.toNat s := by
  simp [takeTableRead, hp, addressed_of hd]

/-- A read that passes every test is answered frame by frame. -/
theorem tableRead_passes {f : RxFrame} {s : State} {k start count : Nat} {l : List (List Byte)}
    (hpass : readRefusal s k start count = none) (hl : l = ((readEntries s k).drop start).take count) :
    tableRead f k start count s = offerAll ((l.zipIdx start).map fun e => mkFrame .tableData f.source
      (BitVec.ofNat 8 k :: BitVec.ofNat 8 e.2 :: (if e.2 + 1 = start + l.length then 1 else 0) :: e.1)) s := by
  rw [tableRead, hpass, ← hl, dataFrames_eq]

theorem lt_length_of_drop {α : Type} {l m : List α} {start count : Nat} (hm : m = (l.drop start).take count)
    (hne : m ≠ []) : start < l.length := by
  by_contra h
  exact hne (by rw [hm, List.drop_eq_nil_of_le (Nat.le_of_not_lt h), List.take_nil])

/-- A read that passes every test, of a stored table or of the counters. -/
theorem exec_tableRead {s : State} {f : RxFrame} {rest : List RxFrame} {t start count : Byte} {l : List (List Byte)}
    (h : AtFront 0x33 f rest s) (hd : f.dest ≠ 255) (hp : f.payload = [t, start, count]) (ht : t.toNat ≤ 13)
    (h1 : 1 ≤ count.toNat) (h2 : count.toNat ≤ 12) (hb : readBusy s t.toNat = false)
    (htable : t.toNat ≤ 12 → tablePresent s.cal t.toNat = true ∧
      l = ((storedTable s.cal t.toNat).entries.drop start.toNat).take count.toNat)
    (hcounters : t.toNat = 13 →
      l = ((s.counters.values.map fun n => [BitVec.ofNat 8 (n / 256), BitVec.ofNat 8 n]).drop start.toNat).take count.toNat)
    (hne : l ≠ []) :
    exec .tableRead s = .next (offerAll ((l.zipIdx start.toNat).map fun e => mkFrame .tableData f.source
      (BitVec.ofNat 8 t.toNat :: BitVec.ofNat 8 e.2 :: (if e.2 + 1 = start.toNat + l.length then 1 else 0) :: e.1))
      (taken rest s)) := by
  have hl : l = ((readEntries (taken rest s) t.toNat).drop start.toNat).take count.toNat := by
    rcases Nat.lt_or_ge t.toNat 13 with hlt | hge
    · obtain ⟨hpresent, hl⟩ := htable (by omega)
      rw [readEntries_table (s := taken rest s) (by omega) hpresent]
      exact hl
    · have hthirteen : t.toNat = 13 := by omega
      rw [hthirteen, readEntries_counters]
      exact hcounters hthirteen
  have hpresent : t.toNat = 13 ∨ tablePresent (taken rest s).cal t.toNat = true :=
    (Nat.lt_or_ge t.toNat 13).elim (fun hlt => .inr (htable (by omega)).1) fun hge => .inl (by omega)
  have hpass := readRefusal_passes (s := taken rest s) ht h1 h2 hb hpresent (lt_length_of_drop hl hne)
  exact (onCommand_front _ h).trans (by rw [takeTableRead_reads hp hd, tableRead_passes hpass hl])

/-- Settles O56: the tests in their order, and the frames of an answer. -/
theorem tableReadsAreServedOrRefused : Obligations.TableReadsAreServedOrRefused := by
  unfold Obligations.TableReadsAreServedOrRefused
  refine ⟨fun s f rest t start count h hd hp => ⟨fun code hroom hcode => ?_, fun l ht h1 h2 hb hpresent hl hne hroom => ?_,
    fun n ht hend h1 h2 hb hn hroom => ?_⟩, fun s f rest t start count l h hd hp ht h1 h2 hb htable hcounters hne =>
      exec_tableRead h hd hp ht h1 h2 hb htable hcounters hne, fun l s free hfree => ?_⟩
  · have hrefused : readRefusal (taken rest s) t.toNat start.toNat count.toNat = some code := by
      refine readRefusal_of ?_
      rcases hcode with hc | hc | ⟨rfl, ht, h1, h2, hb⟩ | hc | ⟨rfl, ht, h1, h2, hb, hpresent, hs⟩ | ⟨rfl, ht, h1, h2, hb, hs⟩
      · exact .inl hc
      · exact .inr (.inl hc)
      · exact .inr (.inr (.inl ⟨rfl, ht, h1, h2, readBusy_iff.2 hb⟩))
      · exact .inr (.inr (.inr (.inl hc)))
      · refine .inr (.inr (.inr (.inr ⟨rfl, by omega, h1, h2, hb, .inr hpresent, ?_⟩)))
        rw [readEntries_table (s := taken rest s) ht hpresent]
        exact hs
      · refine .inr (.inr (.inr (.inr ⟨rfl, by omega, h1, h2, hb, .inl ht, ?_⟩)))
        rw [ht, readEntries_counters, List.length_map]
        exact hs
    refine (onCommand_front _ h).trans ?_
    rw [takeTableRead_reads hp hd, tableRead, hrefused]
    dsimp only
    rw [replyTo_taken hroom, BitVec.ofNat_toNat, BitVec.setWidth_eq]
  · rw [exec_tableRead h hd hp (by omega) h1 h2 hb (fun _ => ⟨hpresent, hl⟩) (fun h13 => by omega) hne,
      offerAll_room (by simpa [taken, takenLink] using hroom)]
    rfl
  · have hlen : (((s.counters.values.map fun n => [BitVec.ofNat 8 (n / 256), BitVec.ofNat 8 n]).drop start.toNat).take
        count.toNat).length = count.toNat := by
      have hvalues : s.counters.values.length = 18 := rfl
      rw [List.length_take, List.length_drop, List.length_map, hvalues]
      omega
    have hne : ((s.counters.values.map fun n => [BitVec.ofNat 8 (n / 256), BitVec.ofNat 8 n]).drop start.toNat).take
        count.toNat ≠ [] := List.ne_nil_of_length_pos (by omega)
    have hhead : (((s.counters.values.map fun n => [BitVec.ofNat 8 (n / 256), BitVec.ofNat 8 n]).drop start.toNat).take
        count.toNat)[0]? = some [BitVec.ofNat 8 (n / 256), BitVec.ofNat 8 n] := by
      rw [List.getElem?_take_of_lt (by omega), List.getElem?_drop, Nat.add_zero, List.getElem?_map, hn]
      rfl
    refine ⟨_, exec_tableRead h hd hp (by omega) h1 h2 hb (fun h12 => by omega) (fun _ => rfl) hne, ?_⟩
    generalize ((s.counters.values.map fun n => [BitVec.ofNat 8 (n / 256), BitVec.ofNat 8 n]).drop start.toNat).take
      count.toNat = l at *
    have hfits : (taken rest s).link.queue.length + l.length ≤ 16 := by rw [hlen]; exact hroom
    rw [offerAll_room (by simpa using hfits)]
    refine ⟨rfl, ?_, ?_⟩
    · simp [taken, takenLink, hlen]
    · have hframe : (taken rest s).link.queue = s.link.queue := rfl
      simp only [State.withLink_link, hframe]
      rw [List.getElem?_append_right le_rfl, Nat.sub_self, List.getElem?_map, List.getElem?_zipIdx, hhead, hlen, ht]
      by_cases hone : count.toNat = 1
      · simp [mkFrame, hone]
      · simp [mkFrame, hone, Ne.symm hone]
  · subst hfree
    exact ⟨offerAll_map _ (fun _ _ => rfl) l s, offerAll_map _ (fun _ _ => rfl) l s, offerAll_map _ (fun _ _ => rfl) l s,
      offerAll_counters l s, (offerAll_raised l s).1, (offerAll_raised l s).2, (offerAll_frame l s).2.2.2.2.2.2.2.2.2.2.2.1⟩

end Sys2Proof.Machine

namespace Sys2Proof.Machine

open Sys2Proof

/-! The tests of a TABLE_WRITE and a TABLE_CUT (O57). -/

/-! ### The field tests (R155 to R157, R176) -/

theorem fieldOf_one (b : Byte) (k : Nat) : fieldOf b k 1 = (b.getLsbD k).toNat := by
  rw [fieldOf, BitVec.getLsbD, Nat.testBit_eq_decide_div_mod_eq, pow_one]
  have h := Nat.mod_two_eq_zero_or_one (b.toNat / 2 ^ k)
  rcases h with h | h <;> simp [h]

theorem fieldOf_lt (b : Byte) (lo width : Nat) : fieldOf b lo width < 2 ^ width := Nat.mod_lt _ (by positivity)

theorem toNat_extractLsb' (b : Byte) (lo width : Nat) : (b.extractLsb' lo width).toNat = fieldOf b lo width := by
  rw [BitVec.extractLsb'_toNat, Nat.shiftRight_eq_div_pow, fieldOf]

/-- The channel map names each input once, in numbers. -/
theorem mapOk_iff (b : Byte) : mapOk (mapOf b) = true ↔
    [fieldOf b 0 2, fieldOf b 2 2, fieldOf b 4 2, fieldOf b 6 2].Nodup := by
  have hmap : [fieldOf b 0 2, fieldOf b 2 2, fieldOf b 4 2, fieldOf b 6 2] =
      [(mapOf b).al, (mapOf b).ar, (mapOf b).bl, (mapOf b).br].map BitVec.toNat := by
    simp only [mapOf, List.map_cons, List.map_nil, toNat_extractLsb']
  rw [mapOk, decide_eq_true_iff, hmap, List.nodup_map_iff BitVec.toNat_injective]

/-- The weighing probe is assigned, or none is and both are ABSENT, in the bits of SETUP byte 3. -/
theorem weighingOk_iff {e : List Byte} (hcode : fieldOf (byteAt e 3) 5 2 ≠ 2) : weighingOk (setupOf e) = true ↔
    (fieldOf (byteAt e 3) 5 2 = 0 → fieldOf (byteAt e 3) 3 1 = 1) ∧
      (fieldOf (byteAt e 3) 5 2 = 1 → fieldOf (byteAt e 3) 4 1 = 1) ∧
      (fieldOf (byteAt e 3) 5 2 = 3 → fieldOf (byteAt e 3) 3 1 = 0 ∧ fieldOf (byteAt e 3) 4 1 = 0) := by
  have hlt := fieldOf_lt (byteAt e 3) 5 2
  rw [fieldOf_one, fieldOf_one, weighingOk, setupOf]
  obtain h | h | h : fieldOf (byteAt e 3) 5 2 = 0 ∨ fieldOf (byteAt e 3) 5 2 = 1 ∨ fieldOf (byteAt e 3) 5 2 = 3 := by omega
  · simp [h, PerProbe.get]
  · simp [h, PerProbe.get]
  · simp [h]

theorem setupOk_iff (e : List Byte) : setupOk e = true ↔ 1000 ≤ numAt e 0 2 ∧ numAt e 0 2 ≤ 6000 ∧
      [fieldOf (byteAt e 2) 0 2, fieldOf (byteAt e 2) 2 2, fieldOf (byteAt e 2) 4 2, fieldOf (byteAt e 2) 6 2].Nodup ∧
      fieldOf (byteAt e 3) 7 1 = 0 ∧ fieldOf (byteAt e 3) 5 2 ≠ 2 ∧
      (fieldOf (byteAt e 3) 5 2 = 0 → fieldOf (byteAt e 3) 3 1 = 1) ∧
      (fieldOf (byteAt e 3) 5 2 = 1 → fieldOf (byteAt e 3) 4 1 = 1) ∧
      (fieldOf (byteAt e 3) 5 2 = 3 → fieldOf (byteAt e 3) 3 1 = 0 ∧ fieldOf (byteAt e 3) 4 1 = 0) ∧
      16 ≤ numAt e 4 2 ∧ numAt e 4 2 ≤ 8192 ∧ 8 ≤ numAt e 6 2 ∧ numAt e 6 2 < numAt e 4 2 ∧
      1 ≤ numAt e 8 1 ∧ numAt e 8 1 ≤ 15 ∧ 16 ≤ numAt e 9 2 ∧ numAt e 9 2 ≤ 8000 ∧
      2000 ≤ numAt e 11 2 ∧ numAt e 11 2 ≤ 20000 ∧ 50 ≤ numAt e 13 2 ∧ numAt e 13 2 ≤ 1000 ∧ numAt e 15 1 ≤ 3 ∧
      -400 ≤ intAt e 16 ∧ intAt e 16 ≤ 800 := by
  have hbit : (!(byteAt e 3).getLsbD 7) = true ↔ fieldOf (byteAt e 3) 7 1 = 0 := by
    rw [fieldOf_one]; cases (byteAt e 3).getLsbD 7 <;> simp
  simp only [setupOk, Bool.and_eq_true, inRange_iff, decide_eq_true_iff, hbit, tempInRange_iff]
  rw [show (setupOf e).map = mapOf (byteAt e 2) from rfl, mapOk_iff]
  simp only [setupOf]
  constructor
  · rintro ⟨⟨⟨⟨⟨⟨⟨⟨⟨⟨⟨⟨hd, hmap⟩, hon⟩, hoff⟩, hq⟩, hdmax⟩, hspacing⟩, hskew⟩, h7⟩, h5⟩, hweigh⟩, hgroup⟩, htemp⟩
    obtain ⟨h0, h1, h3⟩ := (weighingOk_iff h5).1 hweigh
    exact ⟨hd.1, hd.2, hmap, h7, h5, h0, h1, h3, hon.1, hon.2, hoff.1, by omega, hq.1, hq.2, hdmax.1, hdmax.2, hspacing.1,
      hspacing.2, hskew.1, hskew.2, hgroup.2, htemp.1, htemp.2⟩
  · rintro ⟨hd1, hd2, hmap, h7, h5, h0, h1, h3, hon1, hon2, hoff1, hoff2, hq1, hq2, hdmax1, hdmax2, hspacing1, hspacing2,
      hskew1, hskew2, hgroup, htemp1, htemp2⟩
    exact ⟨⟨⟨⟨⟨⟨⟨⟨⟨⟨⟨⟨⟨hd1, hd2⟩, hmap⟩, hon1, hon2⟩, hoff1, by omega⟩, hq1, hq2⟩, hdmax1, hdmax2⟩, hspacing1, hspacing2⟩,
      hskew1, hskew2⟩, h7⟩, h5⟩, (weighingOk_iff h5).2 ⟨h0, h1, h3⟩⟩, Nat.zero_le _, hgroup⟩, htemp1, htemp2⟩

theorem entryOk_setup (e : List Byte) : entryOk 0 e = true ↔ e.length = 20 ∧ setupOk e = true := by
  simp [entryOk, entryLength]

theorem entryOk_gain (e : List Byte) : entryOk 1 e = true ↔ e.length = 3 ∧ 1 ≤ numAt e 0 3 ∧ numAt e 0 3 ≤ 16777215 := by
  simp [entryOk, entryLength, inRange_iff, gainOf]

theorem entryOk_band (e : List Byte) : entryOk 2 e = true ↔
    e.length = 4 ∧ 50 ≤ numAt e 0 2 ∧ numAt e 0 2 ≤ 2500 ∧ 512 ≤ numAt e 2 2 ∧ numAt e 2 2 ≤ 2047 := by
  simp [entryOk, entryLength, inRange_iff, bandOf, and_assoc]

theorem entryOk_temp (e : List Byte) : entryOk 3 e = true ↔
    e.length = 4 ∧ -400 ≤ intAt e 0 ∧ intAt e 0 ≤ 800 ∧ 512 ≤ numAt e 2 2 ∧ numAt e 2 2 ≤ 2047 := by
  simp [entryOk, entryLength, inRange_iff, tempInRange_iff, tempPointOf, and_assoc]

theorem entryOk_screen (e : List Byte) : entryOk 4 e = true ↔
    e.length = 9 ∧ 50 ≤ numAt e 0 2 ∧ numAt e 0 2 ≤ numAt e 2 2 ∧ numAt e 2 2 ≤ 2500 ∧
      -400 ≤ intAt e 4 ∧ intAt e 4 ≤ intAt e 6 ∧ intAt e 6 ≤ 800 ∧ 5 ≤ numAt e 8 1 ∧ numAt e 8 1 ≤ 50 := by
  have hok : entryOk 4 e = (decide (e.length = 9) && screenOk e) := rfl
  rw [hok]
  simp only [screenOk, Bool.and_eq_true, decide_eq_true_eq, inRange_iff, tempInRange_iff]
  simp only [screenOf]
  omega

theorem entryOk_class (e : List Byte) {n : Nat} (h2 : 2 ≤ n) : entryOk (n + 3) e = true ↔
    e.length = 9 + 2 * (n - 1) ∧ 1 ≤ numAt e 0 1 ∧ numAt e 0 1 ≤ 14 ∧
      numAt e 1 2 ≤ numAt e 3 2 ∧ numAt e 3 2 ≤ 1000 ∧ 1 ≤ numAt e 5 2 ∧ numAt e 5 2 ≤ 1000 ∧
      1 ≤ numAt e 7 2 ∧ numAt e 7 2 ≤ 1000 ∧ ∀ k, k < n - 1 → numAt e (9 + 2 * k) 1 ≤ numAt e (10 + 2 * k) 1 := by
  have hgaps : gapsOf (n + 3) = n - 1 := by rw [gapsOf]; omega
  have hlength : entryLength (n + 3) = 9 + 2 * (n - 1) := by
    rw [entryLength, if_neg (by omega), if_neg (by omega), if_neg (by omega), if_neg (by omega)]
    omega
  have hok : entryOk (n + 3) e = (decide (e.length = 9 + 2 * (n - 1)) && classOk (n - 1) e) := by
    rw [entryOk, hlength, hgaps, if_neg (by omega), if_neg (by omega), if_neg (by omega), if_neg (by omega),
      if_neg (by omega)]
  rw [hok]
  simp only [classOk, Bool.and_eq_true, decide_eq_true_eq, inRange_iff, List.all_eq_true]
  simp only [classOf, List.mem_map, List.mem_range, forall_exists_index, and_imp, forall_apply_eq_imp_iff₂]
  constructor
  · rintro ⟨hlen, ⟨⟨⟨⟨⟨h1, h14⟩, hk⟩, hg⟩, hg'⟩, ha⟩, hl⟩
    exact ⟨hlen, h1, h14, hg, hg', ha.1, ha.2, hl.1, hl.2, hk⟩
  · rintro ⟨hlen, h1, h14, hg, hg', ha1, ha2, hl1, hl2, hk⟩
    exact ⟨hlen, ⟨⟨⟨⟨⟨h1, h14⟩, hk⟩, hg⟩, hg'⟩, ha1, ha2⟩, hl1, hl2⟩

/-! ### The order test (R156) -/

/-- The order test of a table that has one, by the key of its entries. -/
theorem orderOk_iff {t : Nat} (ht : t = 2 ∨ t = 3) {entries : List (List Byte)} {index : Nat} {e : List Byte}
    (h : index ≤ entries.length) : orderOk t entries index e = true ↔
      (∀ b, 1 ≤ index → entries[index - 1]? = some b → orderKey t b < orderKey t e) ∧
      ∀ b, entries[index + 1]? = some b → orderKey t e < orderKey t b := by
  have hbefore : (index = 0 ∨ orderKey t (entries.getD (index - 1) []) < orderKey t e) ↔
      ∀ b, 1 ≤ index → entries[index - 1]? = some b → orderKey t b < orderKey t e := by
    rcases Nat.eq_zero_or_pos index with rfl | hpos
    · simp
    · have hlt : index - 1 < entries.length := by omega
      simp [List.getD_eq_getElem?_getD, List.getElem?_eq_getElem hlt, Nat.ne_of_gt hpos, Nat.one_le_iff_ne_zero]
  have hbehind : (entries.length ≤ index + 1 ∨ orderKey t e < orderKey t (entries.getD (index + 1) [])) ↔
      ∀ b, entries[index + 1]? = some b → orderKey t e < orderKey t b := by
    rcases Nat.lt_or_ge (index + 1) entries.length with hlt | hge
    · simp [List.getD_eq_getElem?_getD, List.getElem?_eq_getElem hlt, Nat.not_le.2 hlt]
    · simp [hge]
  simp only [orderOk, if_pos ht, Bool.and_eq_true, Bool.or_eq_true, decide_eq_true_iff, hbefore, hbehind]

/-! ### The tests of R161 -/

/-- A change that fails a test is refused by the first. -/
theorem changeRefusal_of {s : State} {k : Nat} {fits fieldsOk ordered : Bool} {code : ReplyCode}
    (h : (code = .range ∧ 13 < k) ∨ (code = .notAllowed ∧ k = 13) ∨ (code = .locked ∧ k ≤ 12 ∧ s.cal.lock = true) ∨
      (code = .notAllowed ∧ k ≤ 12 ∧ s.cal.lock = false ∧ s.straps.calEnable = false) ∨
      (code = .busy ∧ k ≤ 12 ∧ s.cal.lock = false ∧ s.straps.calEnable = true ∧
        (s.cal.activity ≠ .idle ∨ s.ctl.restartPending = true)) ∨
      (k ≤ 12 ∧ s.cal.lock = false ∧ s.straps.calEnable = true ∧ s.cal.activity = .idle ∧
        s.ctl.restartPending = false ∧
        ((code = .range ∧ fits = false) ∨ (code = .field ∧ fits = true ∧ fieldsOk = false) ∨
          (code = .order ∧ fits = true ∧ fieldsOk = true ∧ ordered = false)))) :
    changeRefusal s k fits fieldsOk ordered = some code := by
  unfold changeRefusal
  rcases h with ⟨rfl, hk⟩ | ⟨rfl, hk⟩ | ⟨rfl, hk, hlock⟩ | ⟨rfl, hk, hlock, hstrap⟩ | ⟨rfl, hk, hlock, hstrap, hbusy⟩ |
    ⟨hk, hlock, hstrap, hidle, hrestart, hlast⟩
  · rw [if_pos hk]
  · rw [if_neg (by omega), if_pos hk]
  · rw [if_neg (by omega), if_neg (by omega), if_pos hlock]
  · rw [if_neg (by omega), if_neg (by omega), if_neg (by simp [hlock]), if_pos hstrap]
  · rw [if_neg (by omega), if_neg (by omega), if_neg (by simp [hlock]), if_neg (by simp [hstrap]),
      if_pos (calBusy_iff.2 hbusy)]
  · rw [if_neg (by omega), if_neg (by omega), if_neg (by simp [hlock]), if_neg (by simp [hstrap]),
      if_neg (by simp [not_calBusy hidle hrestart])]
    rcases hlast with ⟨rfl, h⟩ | ⟨rfl, hfits, h⟩ | ⟨rfl, hfits, hfield, h⟩
    · rw [if_pos h]
    · rw [if_neg (by simp [hfits]), if_pos h]
    · rw [if_neg (by simp [hfits]), if_neg (by simp [hfield]), if_pos h]

theorem changeRefusal_passes {s : State} {k : Nat} (hk : k ≤ 12) (hlock : s.cal.lock = false)
    (hstrap : s.straps.calEnable = true) (hidle : s.cal.activity = .idle) (hrestart : s.ctl.restartPending = false) :
    changeRefusal s k true true true = none := by
  rw [changeRefusal, if_neg (by omega), if_neg (by omega), if_neg (by simp [hlock]), if_neg (by simp [hstrap]),
    if_neg (by simp [not_calBusy hidle hrestart])]
  rfl

/-- A TABLE_WRITE or a TABLE_CUT, with the test that it fails, or none. -/
theorem exec_change {s : State} {f : RxFrame} {rest : List RxFrame} {c : Instr} {t : Byte} {change : Change}
    {fits fieldsOk ordered : Bool} (hq : s.link.rxQueue = f :: rest) (hw : working s = true) (hdue : s.link.due = true)
    (hd : f.dest ≠ 255)
    (h : (∃ index entry, c = .tableWrite ∧ f.kind = 0x34 ∧ f.payload = t :: index :: entry ∧
        change = .entry index.toNat entry ∧
        fits = decide (index.toNat ≤ (tableEntries s.cal t.toNat).length ∧ index.toNat < tableCap t.toNat) ∧
        fieldsOk = entryOk t.toNat entry ∧
        ordered = orderOk t.toNat (tableEntries s.cal t.toNat) index.toNat entry) ∨
      (∃ count, c = .tableCut ∧ f.kind = 0x35 ∧ f.payload = [t, count] ∧ change = .cut count.toNat ∧
        fits = decide (count.toNat ≤ (tableEntries s.cal t.toNat).length) ∧ fieldsOk = true ∧ ordered = true)) :
    exec c s = .next (match changeRefusal s t.toNat fits fieldsOk ordered with
      | some code => replyTo f code t (taken rest s)
      | none => beginChange t.toNat change f.source (taken rest s)) := by
  rcases h with ⟨index, entry, rfl, hkind, hp, rfl, rfl, rfl, rfl⟩ | ⟨count, rfl, hkind, hp, rfl, rfl, rfl, rfl⟩
  · refine (onCommand_front takeTableWrite ⟨hw, hdue, hq, hkind⟩).trans ?_
    have hfits : decide (index.toNat ≤ (tableEntries s.cal t.toNat).length ∧ index.toNat < tableCap t.toNat) =
        indexOk (taken rest s) t.toNat index.toNat := by rw [Bool.decide_and]; rfl
    simp only [takeTableWrite, hp, addressed_of hd, if_true, tableWrite, hfits, BitVec.ofNat_toNat, BitVec.setWidth_eq]
    rfl
  · refine (onCommand_front takeTableCut ⟨hw, hdue, hq, hkind⟩).trans ?_
    simp only [takeTableCut, hp, addressed_of hd, if_true, tableCut, BitVec.ofNat_toNat, BitVec.setWidth_eq]
    rfl

/-- Settles O57: field test, order test, capacities, and the tests of R161 in their order. -/
theorem tableChangesAreTestedInOrder : Obligations.TableChangesAreTestedInOrder := by
  unfold Obligations.TableChangesAreTestedInOrder
  refine ⟨fun e => ⟨by rw [entryOk_setup, setupOk_iff], entryOk_gain e, entryOk_band e, entryOk_temp e, entryOk_screen e,
    fun n h2 _ => entryOk_class e h2⟩, fun entries index e h => ⟨?_, ?_, fun t h2 h3 => by simp [orderOk, h2, h3]⟩, by decide,
    fun s f rest c t change fits fieldsOk ordered hq hw hdue hd hc => ⟨fun code hroom hcode => ?_,
      fun hk hlock hstrap hidle hrestart hfits hfield hordered => ?_⟩⟩
  · rw [orderOk_iff (.inl rfl) h]
    simp [orderKey, bandOf]
  · rw [orderOk_iff (.inr rfl) h]
    simp [orderKey, tempPointOf]
  · rw [exec_change hq hw hdue hd hc, changeRefusal_of hcode]
    dsimp only
    rw [replyTo_taken hroom]
  · subst hfits hfield hordered
    rw [exec_change hq hw hdue hd hc, changeRefusal_passes hk hlock hstrap hidle hrestart]
    rfl

end Sys2Proof.Machine

namespace Sys2Proof.Machine

open Sys2Proof

/-! The peer table (O46, O47). -/

/-! ### A beacon by its source (R123) -/

/-- The older of a LOST entry and the oldest before it. -/
def olderOf (s : State) (m : Option Peer) (p : Peer) : Option Peer :=
  match m with
  | none => some p
  | some q => if ageOf s q < ageOf s p then some p else some q

theorem oldestLost_eq (s : State) :
    oldestLost s = (s.peers.filter fun p => decide (p.state = .lost)).foldl (olderOf s) none := rfl

theorem olderOf_takes {s : State} {m : Option Peer} {p : Peer} (h : ∀ q ∈ m, ageOf s q < ageOf s p) :
    olderOf s m p = some p := by
  cases m with
  | none => rfl
  | some q => exact if_pos (h q rfl)

theorem olderOf_keeps {s : State} {p a : Peer} (h : ageOf s a < ageOf s p) : olderOf s (some p) a = some p :=
  if_neg (not_lt.2 h.le)

/-- Entries that are all younger leave a younger one, or none, as the oldest. -/
theorem foldl_olderOf_below {s : State} {p : Peer} (l : List Peer) (m : Option Peer) (hl : ∀ x ∈ l, ageOf s x < ageOf s p)
    (hm : ∀ q ∈ m, ageOf s q < ageOf s p) : ∀ q ∈ l.foldl (olderOf s) m, ageOf s q < ageOf s p := by
  induction l generalizing m with
  | nil => exact hm
  | cons a l ih =>
    refine ih _ (fun x hx => hl x (by simp [hx])) fun q hq => ?_
    cases m with
    | none => exact (Option.some.inj hq) ▸ hl a (by simp)
    | some r =>
      rw [olderOf] at hq
      split at hq
      · exact (Option.some.inj hq) ▸ hl a (by simp)
      · exact (Option.some.inj hq) ▸ hm r rfl

theorem foldl_olderOf_keeps {s : State} {p : Peer} (l : List Peer) (hl : ∀ x ∈ l, ageOf s x < ageOf s p) :
    l.foldl (olderOf s) (some p) = some p := by
  induction l with
  | nil => rfl
  | cons a l ih => rw [List.foldl_cons, olderOf_keeps (hl a (by simp)), ih fun x hx => hl x (by simp [hx])]

/-- The LOST entry whose last beacon is older than that of every other LOST one. -/
theorem oldestLost_at {s : State} {before behind : List Peer} {p : Peer} (hl : s.peers = before ++ p :: behind)
    (hp : p.state = .lost) (hother : ∀ x ∈ before ++ behind, x.state = .lost → sdiff s.tick x.last < sdiff s.tick p.last) :
    oldestLost s = some p := by
  have hlost : ∀ l ⊆ before ++ behind, ∀ x ∈ l.filter fun p => decide (p.state = .lost), ageOf s x < ageOf s p := by
    intro l hl x hx
    obtain ⟨hx, hs⟩ := List.mem_filter.1 hx
    exact hother x (hl hx) (by simpa using hs)
  rw [oldestLost_eq, hl, List.filter_append, List.filter_cons_of_pos (by simpa using hp), List.foldl_append, List.foldl_cons,
    olderOf_takes (foldl_olderOf_below _ none (hlost before (by simp)) (by simp)),
    foldl_olderOf_keeps _ (hlost behind (by simp))]

theorem oldestLost_none {s : State} (h : ∀ p ∈ s.peers, p.state ≠ .lost) : oldestLost s = none := by
  rw [oldestLost, List.filter_eq_nil_iff.2 (by simpa using h)]
  rfl

theorem exec_beaconReceived {s : State} {f : RxFrame} {rest : List RxFrame} (h : AtFront 0x20 f rest s)
    (hgood : beaconMalformed f.payload = false) : exec .beaconReceived s = .next (rechoose (takeBeacon f (taken rest s))) := by
  show execBeaconReceived s = _
  rw [execBeaconReceived, deliver_front h]
  exact if_neg (by simp [hgood])

theorem takeBeacon_known {f : RxFrame} {s : State} {before behind : List Peer} {p : Peer} (hb : f.source ≠ broadcast)
    (hown : f.source ≠ ownNumber s) (hl : s.peers = before ++ p :: behind) (hother : ∀ x ∈ before, x.station ≠ f.source)
    (hp : p.station = f.source) : takeBeacon f s = s.withPeers (before ++ updatePeer p f :: behind) := by
  have hany : s.peers.any (peerIs f.source) = true := List.any_eq_true.2 ⟨p, by simp [hl], by simp [peerIs, hp]⟩
  rw [takeBeacon, if_neg hb, if_neg hown, if_pos hany, hl,
    changeFirst_at _ _ _ _ _ (fun x hx => by simpa [peerIs] using hother x hx) (by simp [peerIs, hp])]

/-- A beacon of a station that no entry holds, at a table with a place. -/
theorem takeBeacon_room {f : RxFrame} {s : State} (hb : f.source ≠ broadcast) (hown : f.source ≠ ownNumber s)
    (hnew : ∀ x ∈ s.peers, x.station ≠ f.source) (hroom : s.peers.length < 15) :
    takeBeacon f s = s.withPeers (s.peers ++ [newPeer f]) := by
  have hany : ¬s.peers.any (peerIs f.source) = true := by simpa [peerIs] using hnew
  rw [takeBeacon, if_neg hb, if_neg hown, if_neg hany]
  exact if_pos hroom

/-- A beacon of a station that no entry holds, at a full table with a LOST entry. -/
theorem takeBeacon_replaces {f : RxFrame} {s : State} {p : Peer} (hb : f.source ≠ broadcast) (hown : f.source ≠ ownNumber s)
    (hnew : ∀ x ∈ s.peers, x.station ≠ f.source) (hfull : s.peers.length = 15) (hp : oldestLost s = some p) :
    takeBeacon f s = s.withPeers (changeFirst (peerIs p.station) (fun _ => newPeer f) s.peers) := by
  have hany : ¬s.peers.any (peerIs f.source) = true := by simpa [peerIs] using hnew
  rw [takeBeacon, if_neg hb, if_neg hown, if_neg hany, if_neg (by rw [hfull]; decide), hp]

/-- A beacon of a station that no entry holds, at a full table with no LOST entry. -/
theorem takeBeacon_overflows {f : RxFrame} {s : State} (hb : f.source ≠ broadcast) (hown : f.source ≠ ownNumber s)
    (hnew : ∀ x ∈ s.peers, x.station ≠ f.source) (hfull : s.peers.length = 15) (hp : oldestLost s = none) :
    takeBeacon f s = raise .peerOverflow s := by
  have hany : ¬s.peers.any (peerIs f.source) = true := by simpa [peerIs] using hnew
  rw [takeBeacon, if_neg hb, if_neg hown, if_neg hany, if_neg (by rw [hfull]; decide), hp]

theorem ownNumber_ne_broadcast (s : State) : ownNumber s ≠ broadcast := by
  intro h
  have hlt := s.straps.station.isLt
  have hnum : s.straps.station.toNat % 256 = 255 := by simpa [ownNumber, broadcast] using congrArg BitVec.toNat h
  omega

/-- Settles O46, by the source of the beacon and the peer table. -/
theorem beaconsReachThePeerTable : Obligations.BeaconsReachThePeerTable := by
  unfold Obligations.BeaconsReachThePeerTable
  intro s f rest h
  refine ⟨fun hbad => ?_, fun hgood hb => ?_, fun hgood hown => ?_, fun hgood hb hown => ⟨fun before p behind hl hother hp => ?_,
    fun hnew hroom => ?_, fun before p behind hl hnew hfull hfirst hp hold => ?_, fun hnew hfull hnone => ?_⟩⟩
  · show execBeaconReceived s = _
    rw [execBeaconReceived, deliver_front h]
    exact if_pos hbad
  · rw [exec_beaconReceived h hgood, takeBeacon]
    exact congrArg (fun x => Host.Outcome.next (rechoose x)) (if_pos hb)
  · have hb : f.source ≠ broadcast := hown ▸ ownNumber_ne_broadcast s
    rw [exec_beaconReceived h hgood, takeBeacon, if_neg hb]
    exact congrArg (fun x => Host.Outcome.next (rechoose x)) (if_pos hown)
  · rw [exec_beaconReceived h hgood, takeBeacon_known (s := taken rest s) hb hown hl hother hp]
  · rw [exec_beaconReceived h hgood, takeBeacon_room (s := taken rest s) hb hown hnew hroom]
    rfl
  · rw [exec_beaconReceived h hgood, takeBeacon_replaces (s := taken rest s) hb hown hnew hfull (oldestLost_at hl hp hold),
      show (taken rest s).peers = _ from hl,
      changeFirst_at _ _ _ _ _ (fun x hx => by simpa [peerIs] using hfirst x hx) (by simp [peerIs])]
  · rw [exec_beaconReceived h hgood, takeBeacon_overflows (s := taken rest s) hb hown hnew hfull (oldestLost_none hnone)]

/-! ### The entries (R124 to R129) -/

theorem sourceCode_beaconSource {p : List Byte} (h : beaconMalformed p = false) :
    sourceCode (beaconSource p) = (byteAt p 3).toNat / 16 % 8 := by
  have hlt : fieldOf (byteAt p 3) 4 3 < 5 := by
    simp only [beaconMalformed, Bool.or_eq_false_iff, decide_eq_false_iff_not] at h
    omega
  show _ = fieldOf (byteAt p 3) 4 3
  rw [beaconSource]
  interval_cases fieldOf (byteAt p 3) 4 3 <;> rfl

theorem updatePeer_lost {p : Peer} (h : p.state = .lost) (f : RxFrame) : updatePeer p f = newPeer f := if_pos h

theorem updatePeer_of_not_lost {p : Peer} (h : p.state ≠ .lost) (f : RxFrame) : updatePeer p f =
    { newPeer f with
      previous := some p.offset
      stable := (peerStep p (stableBeacon p f)).1
      state := (peerStep p (stableBeacon p f)).2 } := if_neg h

theorem stableBeacon_of {p : Peer} {f : RxFrame}
    (h : (sdiff (BitVec.ofNat 32 (numAt f.payload 4 4) - f.stamp) p.offset).natAbs ≤ 2) : stableBeacon p f = true :=
  (within_iff _ _ _).2 h

theorem not_stableBeacon {p : Peer} {f : RxFrame}
    (h : 2 < (sdiff (BitVec.ofNat 32 (numAt f.payload 4 4) - f.stamp) p.offset).natAbs) : stableBeacon p f = false := by
  rw [← Bool.not_eq_true, stableBeacon, within_iff]
  exact not_le.2 h

/-- The step of a HEARD or DRIFTING entry. -/
theorem peerStep_counting {p : Peer} (h : p.state = .heard ∨ p.state = .drifting) (b : Bool) :
    peerStep p b = if b then (p.stable + 1, if 4 ≤ p.stable + 1 then .aligned else p.state) else (0, p.state) := by
  rcases h with h | h <;> rw [peerStep, h] <;> rfl

theorem peerStep_aligned {p : Peer} (h : p.state = .aligned) (b : Bool) :
    peerStep p b = if b then (4, .aligned) else (0, .drifting) := by rw [peerStep, h]; rfl

theorem claims_iff (lane : Nat) (p : Peer) : claims lane p = true ↔ p.lane.toNat = lane ∧ 1 ≤ lane ∧ lane ≤ 8 ∧
    (p.state = .heard ∨ p.state = .aligned ∨ p.state = .drifting) := by
  have hstate : p.state ≠ .lost ↔ p.state = .heard ∨ p.state = .aligned ∨ p.state = .drifting := by
    cases p.state <;> simp
  simp only [claims, Bool.and_eq_true, decide_eq_true_eq, inRange_iff, hstate]
  tauto

theorem mem_claimants_of_soleClaimant {s : State} {lane : Nat} {p : Peer} (h : soleClaimant s lane = some p) :
    p ∈ claimants s lane := by
  unfold soleClaimant at h
  split at h
  · split at h
    · next q hq =>
      obtain rfl : q = p := by simpa using h
      simp [hq]
    · cases h
  · cases h

/-- The sole claimant of a lane claims it. -/
theorem claims_of_soleClaimant {s : State} {lane : Nat} {p : Peer} (h : soleClaimant s lane = some p) :
    claims lane p = true := (List.mem_filter.1 (mem_claimants_of_soleClaimant h)).2

theorem not_claims_of_lost {p : Peer} (h : p.state = .lost) (lane : Nat) : claims lane p = false := by simp [claims, h]

theorem isFresh_iff (s : State) (p : Peer) : isFresh s p = true ↔
    p.group = s.setup.group ∧ (p.state = .heard ∨ p.state = .aligned) ∧ sdiff s.tick p.last ≤ 24000 ∧
      (p.source = .probe ∨ p.source = .altProbe) ∧ -400 ≤ p.temp ∧ p.temp ≤ 800 := by
  simp only [isFresh, Bool.and_eq_true, Bool.or_eq_true, decide_eq_true_eq, tempInRange_iff, and_assoc]
  rfl

/-- Settles O47, entry by entry. -/
theorem peerEntriesFollowTheirBeacons : Obligations.PeerEntriesFollowTheirBeacons := by
  unfold Obligations.PeerEntriesFollowTheirBeacons
  refine ⟨fun f => ⟨rfl, rfl, ?_, rfl, rfl, rfl, sourceCode_beaconSource, rfl, rfl, rfl, rfl⟩,
    fun p f => ⟨fun h => updatePeer_lost h f, fun d hd => ?_⟩, fun s before behind p hl hother hp hr => ?_,
    fun s n hnone => ?_, fun p lane => claims_iff lane p, isFresh_iff, fun s p lane hp => ⟨not_claims_of_lost hp lane, ?_, ?_, ?_⟩⟩
  · simp [newPeer, fieldOf]
  · subst hd
    have hcounting : p.state = .heard ∨ p.state = .drifting → p.state ≠ .lost := by rintro (h | h) <;> simp [h]
    refine ⟨fun h hd hlt => ?_, fun h hd hthree => ?_, fun h hd => ?_, fun h hd => ?_, fun h hd => ?_⟩
    · rw [updatePeer_of_not_lost (hcounting h), stableBeacon_of hd, peerStep_counting h, if_pos rfl, if_neg (by omega)]
    · rw [updatePeer_of_not_lost (hcounting h), stableBeacon_of hd, peerStep_counting h, if_pos rfl, if_pos (by omega), hthree]
    · rw [updatePeer_of_not_lost (hcounting h), not_stableBeacon hd, peerStep_counting h, if_neg (by simp)]
    · rw [updatePeer_of_not_lost (by simp [h]), stableBeacon_of hd, peerStep_aligned h, if_pos rfl]
    · rw [updatePeer_of_not_lost (by simp [h]), not_stableBeacon hd, peerStep_aligned h, if_neg (by simp)]
  · show Host.Outcome.next (s.withPeers (changeFirst (lossDue s p.station) _ s.peers)) = _
    rw [hl, changeFirst_at _ _ _ _ _ (fun x hx => by simp [lossDue, peerIs, hother x hx]) (by simp [lossDue, peerIs, hp, hr])]
  · show Host.Outcome.next (s.withPeers (changeFirst (lossDue s n) _ s.peers)) = _
    rw [changeFirst_none _ _ _ fun x hx => ?_]
    · rfl
    · by_cases hxn : x.station = n
      · rcases hnone x hx hxn with h | h <;> simp [lossDue, h]
      · simp [lossDue, peerIs, hxn]
  · rw [← Bool.not_eq_true, isFresh_iff]
    simp [hp]
  · intro h
    unfold cederNeighbour at h
    split at h
    · exact absurd (claims_of_soleClaimant h) (by simp [not_claims_of_lost hp])
    · cases h
  · intro h
    unfold ownerNeighbour at h
    split at h
    · exact absurd (claims_of_soleClaimant (Option.filter_eq_some_iff.1 h).1) (by simp [not_claims_of_lost hp])
    · cases h

end Sys2Proof.Machine

namespace Sys2Proof.Machine

open Sys2Proof

/-! The link controller on the line (O48, O49). -/

/-! ### Reception (R135 to R137) -/

theorem readingStamp_of {s : State} {stamp : Tick} (hw : working s = true) (ht : transmitting s = false)
    (h : s.link.rxPath = .reading stamp) : readingStamp s = some stamp := by simp [readingStamp, hw, ht, h]

theorem readingStamp_of_busy {s : State} (h : working s = false ∨ transmitting s = true) : readingStamp s = none := by
  rcases h with h | h <;> simp [readingStamp, h]

theorem readingStamp_of_path {s : State} (h : ∀ stamp, s.link.rxPath ≠ .reading stamp) : readingStamp s = none := by
  unfold readingStamp
  split
  · split
    · next hp => exact absurd hp (h _)
    · rfl
    · rfl
    · rfl
  · rfl

theorem exec_frameBroken_none {s : State} (h : readingStamp s = none) (cause : BreakCause) :
    exec (.frameBroken cause) s = .next s := by
  show execFrameBroken cause s = _
  rw [execFrameBroken, h]

theorem exec_frameBroken {s : State} {stamp : Tick} (h : readingStamp s = some stamp) (cause : BreakCause) :
    exec (.frameBroken cause) s = .next (breakFrame cause s) := by
  show execFrameBroken cause s = _
  rw [execFrameBroken, h]

theorem exec_frameComplete_none {s : State} (h : readingStamp s = none) (kind source dest : Byte) (payload : List Byte)
    (crc : BitVec 16) : exec (.frameComplete kind source dest payload crc) s = .next s := by
  show execFrameComplete kind source dest payload crc s = _
  rw [execFrameComplete, h]

theorem exec_frameComplete_long {s : State} {stamp : Tick} (h : readingStamp s = some stamp) {kind source dest : Byte}
    {payload : List Byte} (hlen : 80 < payload.length) (crc : BitVec 16) :
    exec (.frameComplete kind source dest payload crc) s = .next (breakFrame .overLength s) := by
  show execFrameComplete kind source dest payload crc s = _
  rw [execFrameComplete, h]
  exact if_pos hlen

theorem exec_frameComplete {s : State} {stamp : Tick} (h : readingStamp s = some stamp) {kind source dest : Byte}
    {payload : List Byte} (hlen : payload.length ≤ 80) (crc : BitVec 16) :
    exec (.frameComplete kind source dest payload crc) s =
      .next (judgeFrame ⟨kind, source, dest, payload, stamp⟩ crc (withRxPath s .idle)) := by
  show execFrameComplete kind source dest payload crc s = _
  rw [execFrameComplete, h]
  exact if_neg (Nat.not_lt.2 hlen)

theorem breakFrame_eq (cause : BreakCause) (s : State) : breakFrame cause s =
    (s.withLink { s.link with rxPath := if cause = .quietGap then .idle else .waitQuiet }).withCounters
      (s.counters.bump .crcFailures) := by cases cause <;> rfl

theorem onCommand_none {kind : Byte} {s : State} (h : deliver kind s = none) (effect : RxFrame → State → State) :
    onCommand kind effect s = .next s := by rw [onCommand, h]

theorem onMerge_none {kind : Byte} {s : State} (h : deliver kind s = none) (effect : Byte → Byte → State → State) :
    onMerge kind effect s = .next s := by rw [onMerge, h]

theorem deliver_none {kind : Byte} {s : State}
    (h : s.link.rxQueue = [] ∨ working s = false ∨ s.link.due = false ∨ ∀ f ∈ s.link.rxQueue.head?, f.kind ≠ kind) :
    deliver kind s = none := by
  unfold deliver
  split
  · next f rest hq =>
    rcases h with h | h | h | h
    · simp [hq] at h
    · simp [h]
    · simp [h]
    · simp [h f (by simp [hq])]
  · rfl

/-! ### A completed frame and a collided one, on the line -/

theorem useFreedPlace_counters (b : Bool) (s : State) : (useFreedPlace b s).counters = s.counters := by
  unfold useFreedPlace refillImmediate
  (repeat' split)
  · exact offerReady_counters _
  · rfl
  · exact offerReady_counters _

theorem removeSending_counters (s : State) : (removeSending s).counters = s.counters := by
  unfold removeSending
  split <;> rfl

theorem exec_transmissionComplete {s : State} {f : TxFrame} (h : sendingFrame s = some f) :
    exec .transmissionComplete s = .next (completeFrame f s) := by
  show execTransmissionComplete s = _
  rw [execTransmissionComplete, h]

theorem vehicleSent_link (f : TxFrame) (s : State) : (vehicleSent f s).link = s.link := by
  unfold vehicleSent
  split <;> rfl

theorem completeFrame_line (f : TxFrame) (s : State) : (completeFrame f s).link.line = (completedLink s f).line := by
  rw [completeFrame, useFreedPlace_line]
  show (vehicleSent f (removeSending (s.withLink (completedLink s f)))).link.line = _
  rw [vehicleSent_link, removeSending_line]
  rfl

theorem completeFrame_crcFailures (f : TxFrame) (s : State) :
    (completeFrame f s).counters.crcFailures = s.counters.crcFailures := by
  rw [completeFrame, useFreedPlace_counters]
  show (vehicleSent f _).counters.crcFailures = _
  unfold vehicleSent
  split
  · show (removeSending (s.withLink (completedLink s f))).counters.crcFailures = _
    rw [removeSending_counters]
    rfl
  · exact congrArg Counters.crcFailures (removeSending_counters (s.withLink (completedLink s f)))

theorem exec_collision_last {s : State} {f : TxFrame} (h : sendingFrame s = some f) (hlast : 7 ≤ f.collisions) :
    exec .collision s = .next (abandonFrame f (bump .collisions s)) := by
  show execCollision s = _
  rw [execCollision, h]
  exact if_pos (Nat.succ_le_succ hlast)

theorem exec_collision_kept {s : State} {f : TxFrame} (h : sendingFrame s = some f) (hkept : f.collisions < 7) :
    exec .collision s = .next (keepCollided f (bump .collisions s)) := by
  show execCollision s = _
  rw [execCollision, h]
  exact if_neg (Nat.not_le.2 (Nat.succ_lt_succ hkept))

theorem returnToReady_link (f : TxFrame) (s : State) : (returnToReady f s).link = s.link := by
  unfold returnToReady
  split <;> rfl

theorem abandonFrame_line (f : TxFrame) (s : State) : (abandonFrame f s).link.line = s.link.line := by
  rw [abandonFrame, useFreedPlace_line, returnToReady_link, raise_line, bump_line, removeSending_line]

theorem keepCollided_line (f : TxFrame) (s : State) :
    (keepCollided f s).link.line = Link.line { s.link with lfsr := advanceLfsr s.link.lfsr } := by
  unfold keepCollided
  dsimp only
  split
  · rw [offerReady_line, removeSending_line]; rfl
  · rw [changeSending_line]; rfl

/-- Settles O48, line event by line event. -/
theorem framesAreReadAndJudged : Obligations.FramesAreReadAndJudged := by
  unfold Obligations.FramesAreReadAndJudged
  refine ⟨fun s hw ht => ⟨fun hp => ?_, fun hp => ?_⟩,
    fun s kind source dest payload crc cause => ⟨fun h => ⟨?_, exec_frameBroken_none (readingStamp_of_busy h) _,
      exec_frameComplete_none (readingStamp_of_busy h) ..⟩, fun h => ⟨exec_frameBroken_none (readingStamp_of_path h) _,
      exec_frameComplete_none (readingStamp_of_path h) ..⟩⟩,
    fun s stamp kind source dest payload crc hw ht hp hlen => ?_, fun s t f hf => ⟨fun h => ?_, fun h => ?_⟩, fun s hw => ?_,
    fun s kind => ⟨fun f rest hq hw hdue hk => deliver_front ⟨hw, hdue, hq, hk⟩, deliver_none⟩, fun s c kind h hc => ?_,
    fun s stamp cause hw ht hp => ?_, fun s stamp kind source dest payload crc hw ht hp hlen => ⟨fun hcrc => ?_,
      fun hcrc hdrop => ?_, fun hcrc hdest hkind => ⟨fun hroom => ?_, fun hfull => ?_⟩⟩⟩
  · show execStartBitSeen s = _
    simp [execStartBitSeen, hw, ht, hp]
  · show execStartBitSeen s = _
    simp [execStartBitSeen, hw, ht, hp]
  · show execStartBitSeen s = _
    rcases h with h | h <;> simp [execStartBitSeen, h]
  · rw [exec_frameComplete_long (readingStamp_of hw ht hp) hlen, breakFrame_eq]
    rfl
  · rw [exec_transmissionComplete hf] at h
    obtain rfl := Host.Outcome.next.inj h
    obtain ⟨hpath, hrx, -⟩ := line_parts (completeFrame_line f s)
    exact ⟨hpath, completeFrame_crcFailures f s, hrx⟩
  · rcases Nat.lt_or_ge f.collisions 7 with hkept | hlast
    · rw [exec_collision_kept hf hkept] at h
      obtain rfl := Host.Outcome.next.inj h
      obtain ⟨hpath, hrx, -⟩ := line_parts (keepCollided_line f (bump .collisions s))
      exact ⟨hpath, hrx⟩
    · rw [exec_collision_last hf hlast] at h
      obtain rfl := Host.Outcome.next.inj h
      obtain ⟨hpath, hrx, -⟩ := line_parts (abandonFrame_line f (bump .collisions s))
      exact ⟨hpath, hrx⟩
  · obtain ⟨-, hrx, hdue⟩ := strobeEffect_link s
    refine ⟨_, exec_strobe_of_working hw, hrx, ?_⟩
    rw [hdue]
    simp
  · have hcommand := onCommand_none h
    have hmerge := onMerge_none h
    simp only [List.mem_cons, List.not_mem_nil, or_false, Prod.mk.injEq] at hc
    rcases hc with ⟨rfl, rfl⟩ | ⟨rfl, rfl⟩ | ⟨rfl, rfl⟩ | ⟨rfl, rfl⟩ | ⟨rfl, rfl⟩ | ⟨rfl, rfl⟩ | ⟨rfl, rfl⟩ | ⟨rfl, rfl⟩ |
      ⟨rfl, rfl⟩ | ⟨rfl, rfl⟩ | ⟨rfl, rfl⟩ | ⟨rfl, rfl⟩ | ⟨rfl, rfl⟩ | ⟨rfl, rfl⟩ | ⟨rfl, rfl⟩ | ⟨rfl, rfl⟩
    · show execBeaconReceived s = _
      rw [execBeaconReceived, h]
    · show execHalfAxleReceived s = _
      rw [execHalfAxleReceived, h]
    · exact hmerge takeTake
    · exact hmerge takeCede
    · exact hmerge takeRefuse
    · exact hcommand _
    · exact hcommand _
    · exact hcommand _
    · exact hcommand _
    · exact hcommand _
    · exact hcommand _
    · exact hcommand _
    · exact hcommand _
    · exact hcommand _
    · exact hcommand _
    · exact hcommand _
  · rw [exec_frameBroken (readingStamp_of hw ht hp), breakFrame_eq]
  · rw [exec_frameComplete (readingStamp_of hw ht hp) hlen, judgeFrame, if_pos hcrc]
    rfl
  · rw [exec_frameComplete (readingStamp_of hw ht hp) hlen, judgeFrame, if_neg (not_not.2 hcrc)]
    rcases hdrop with hdest | hkind
    · exact congrArg _ (if_pos hdest)
    · have hnot : consumedKinds.contains kind = false :=
        Bool.eq_false_iff.2 fun h => hkind (List.contains_iff_mem.1 h)
      dsimp only
      rw [hnot]
      exact congrArg _ (by split <;> rfl)
  · have hmine : ¬(dest ≠ ownNumber s ∧ dest ≠ 255) := by tauto
    have hyes : consumedKinds.contains kind = true := List.contains_iff_mem.2 hkind
    rw [exec_frameComplete (readingStamp_of hw ht hp) hlen, judgeFrame, if_neg (not_not.2 hcrc)]
    refine congrArg _ ((if_neg hmine).trans ((if_pos hyes).trans ?_))
    exact if_pos hroom
  · have hmine : ¬(dest ≠ ownNumber s ∧ dest ≠ 255) := by tauto
    have hyes : consumedKinds.contains kind = true := List.contains_iff_mem.2 hkind
    refine ⟨raise .queueLoss (bump .rxLoss (withRxPath s .idle)), ?_, rfl, rfl, rfl, rfl, rfl, rfl, rfl, rfl, rfl⟩
    rw [exec_frameComplete (readingStamp_of hw ht hp) hlen, judgeFrame, if_neg (not_not.2 hcrc)]
    refine congrArg _ ((if_neg hmine).trans ((if_pos hyes).trans ?_))
    exact if_neg (by show ¬s.link.rxQueue.length < 8; omega)

/-! ### The slots (R139, R141, R147, R151) -/

theorem lineQuiet_of {s : State} (hw : working s = true) (ht : transmitting s = false)
    (hp : s.link.rxPath = .idle ∨ s.link.rxPath = .waitQuiet) : lineQuiet s = true := by
  rcases hp with hp | hp <;> simp [lineQuiet, hw, ht, hp]

/-- The rank of the first frame in transmit order, when one can be the candidate. -/
theorem firstRank_of {l : Link} {r : Nat} (hr : r ≤ 3) (hyes : l.queue.any (ofRank l r) = true)
    (hno : ∀ k, k < r → l.queue.any (ofRank l k) = false) : firstRank l = some r := by
  unfold firstRank
  interval_cases r
  · simp [List.find?, hyes]
  · simp [List.find?, hyes, hno 0]
  · simp [List.find?, hyes, hno 0, hno 1]
  · simp [List.find?, hyes, hno 0, hno 1, hno 2]

theorem firstRank_none {l : Link} (h : ∀ r, l.queue.any (ofRank l r) = false) : firstRank l = none := by
  simp [firstRank, List.find?, h]

/-- A frame of the queue that goes first in transmit order. -/
theorem firstRank_at {l : Link} {f : TxFrame} {before behind : List TxFrame} (hq : l.queue = before ++ f :: behind)
    (hf : f.kind = .vehicle → l.hold = none)
    (hbefore : ∀ x ∈ before, txRank f.kind < txRank x.kind ∨ (x.kind = .vehicle ∧ l.hold.isSome = true))
    (hbehind : ∀ x ∈ behind, txRank f.kind ≤ txRank x.kind ∨ (x.kind = .vehicle ∧ l.hold.isSome = true)) :
    firstRank l = some (txRank f.kind) ∧ (∀ x ∈ before, ofRank l (txRank f.kind) x = false) ∧
      ofRank l (txRank f.kind) f = true := by
  have hself : ofRank l (txRank f.kind) f = true := by
    by_cases hv : f.kind = .vehicle
    · simp [ofRank, passedOver, hf hv]
    · simp [ofRank, passedOver, hv]
  have hother : ∀ (x : TxFrame) (k : Nat), k < txRank x.kind ∨ (x.kind = .vehicle ∧ l.hold.isSome = true) →
      ofRank l k x = false := by
    rintro x k (h | ⟨hv, hhold⟩)
    · simp [ofRank, Nat.ne_of_gt h]
    · simp [ofRank, passedOver, hv, hhold]
  refine ⟨firstRank_of (txRank_le _) (List.any_eq_true.2 ⟨f, by simp [hq], hself⟩) fun k hk => ?_,
    fun x hx => hother x _ (hbefore x hx), hself⟩
  rw [List.any_eq_false]
  intro x hx
  rw [Bool.not_eq_true]
  rw [hq, List.mem_append, List.mem_cons] at hx
  rcases hx with hx | rfl | hx
  · exact hother x k ((hbefore x hx).imp_left hk.trans)
  · simp [ofRank, Nat.ne_of_gt hk]
  · exact hother x k ((hbehind x hx).imp_left hk.trans_le)

theorem exec_slotBegin {s : State} (h : lineQuiet s = true) :
    exec .slotBegin s = .next (if slotDue s then startCandidate (s.withLink (beginSlot s.link))
      else s.withLink (beginSlot s.link)) := by
  show execSlotBegin s = _
  rw [execSlotBegin, if_pos h]
  split <;> rfl

theorem slotDue_of {s : State} {f : TxFrame} (h : candidate s.link = some f) : slotDue s =
    decide (startSlot s.straps.station (nextRound s.link).yielding f = (nextRound s.link).slot) := by simp [slotDue, h]

theorem beginSlot_eq {l : Link} {r : Round} (h : nextRound l = r) : beginSlot l =
    { l with round := some r, rxPath := .idle, yieldFlag := l.yieldFlag && decide (r.slot ≠ 32) } := by
  subst h
  by_cases hs : (nextRound l).slot = 32 <;> simp [beginSlot, yieldSlot, hs]

theorem nextRound_within {l : Link} {r : Round} (h : l.round = some r) (hr : r.slot < 319) :
    nextRound l = ⟨r.slot + 1, r.yielding⟩ := by
  rw [nextRound, h]
  exact if_pos (Nat.succ_lt_succ hr)

theorem startCandidate_queue {s : State} {r : Nat} (himm : s.link.immediate = none) (hrank : firstRank s.link = some r) :
    startCandidate s = s.withLink { s.link with
      round := none, rxPath := .reading s.tick
      queue := changeFirst (ofRank s.link r) (startedFrame s.tick) s.link.queue } := by
  simp only [startCandidate, himm, hrank]

/-- Settles O49, by the frame that goes first. -/
theorem slotsStartTheCandidate : Obligations.SlotsStartTheCandidate := by
  unfold Obligations.SlotsStartTheCandidate
  refine ⟨fun l => ⟨fun h => by simp [nextRound, h], fun r h hr => nextRound_within h hr,
    fun r h hr => by simp [nextRound, h, roundSlots, hr]⟩, fun s r hw ht hp hr => ⟨fun f hf hkind => ⟨fun hslot => ?_,
      fun hslot => ?_⟩, fun himm hall => ?_, fun f before behind himm hq hf hbefore hbehind => ⟨fun hslot => ?_, fun hslot => ?_⟩⟩⟩
  · have hcand : candidate s.link = some f := by simp [candidate, hf]
    rw [exec_slotBegin (lineQuiet_of hw ht hp), slotDue_of hcand, hr, if_pos (decide_eq_true hslot), beginSlot_eq hr]
    simp [startCandidate, hf, startedFrame, hkind]
  · have hcand : candidate s.link = some f := by simp [candidate, hf]
    rw [exec_slotBegin (lineQuiet_of hw ht hp), slotDue_of hcand, hr, if_neg (by simpa using hslot), beginSlot_eq hr]
  · have hnone : firstRank s.link = none := firstRank_none fun k => by
      rw [List.any_eq_false]
      intro x hx
      simp [ofRank, passedOver, hall x hx]
    have hdue : slotDue s = false := by simp [slotDue, candidate, himm, hnone]
    rw [exec_slotBegin (lineQuiet_of hw ht hp), hdue, beginSlot_eq hr]
    rfl
  all_goals
    obtain ⟨hrank, hno, hself⟩ := firstRank_at hq hf hbefore hbehind
    have hcand : candidate s.link = some f := by
      simp only [candidate, himm, hrank, Option.bind_some, hq]
      exact find_at _ _ _ _ hno hself
    rw [exec_slotBegin (lineQuiet_of hw ht hp), slotDue_of hcand, hr]
  · have hchange : changeFirst (ofRank s.link (txRank f.kind)) (startedFrame s.tick) s.link.queue =
        before ++ startedFrame s.tick f :: behind := by rw [hq]; exact changeFirst_at _ _ _ _ _ hno hself
    rw [if_pos (decide_eq_true hslot), startCandidate_queue (s := s.withLink (beginSlot s.link)) himm hrank,
      State.withLink_link, beginSlot_eq hr]
    exact congrArg (fun q => Host.Outcome.next (s.withLink { s.link with
      round := none, rxPath := .reading s.tick, yieldFlag := s.link.yieldFlag && decide (r.slot ≠ 32), queue := q })) hchange
  · rw [if_neg (by simpa using hslot), beginSlot_eq hr]

end Sys2Proof.Machine

namespace Sys2Proof.Machine

open Sys2Proof

/-! The start slot and the backoff generator (O50). -/

theorem frameClass_le (k : FrameKind) : frameClass k ≤ 2 := by cases k <;> simp [frameClass]

theorem startSlot_eq (n : BitVec 4) (y : Bool) (f : TxFrame) : startSlot n y f =
    n.toNat + (if frameClass f.kind = 0 then 0 else (if frameClass f.kind = 1 then 16 else 48) + if y then 16 else 0) +
      16 * f.backoff := by
  have hclass := frameClass_le f.kind
  obtain h | h | h : frameClass f.kind = 0 ∨ frameClass f.kind = 1 ∨ frameClass f.kind = 2 := by omega
  all_goals cases y <;> simp [startSlot, h, Nat.add_comm, Nat.add_left_comm]

theorem toNat_advanceLfsr (r : BitVec 16) : (advanceLfsr r).toNat = r.toNat / 2 +
    (if (r.getLsbD 0 ^^ r.getLsbD 2 ^^ r.getLsbD 3 ^^ r.getLsbD 5) then 32768 else 0) := by
  have hhalf : (r >>> 1).toNat = r.toNat / 2 := by rw [BitVec.toNat_ushiftRight, Nat.shiftRight_eq_div_pow, pow_one]
  have hlt : r.toNat / 2 < 2 ^ 15 := by have := r.isLt; omega
  have hor : r.toNat / 2 ||| 32768 = r.toNat / 2 + 32768 := by
    have h := Nat.two_pow_add_eq_or_of_lt hlt 1
    rw [Nat.or_comm, ← show 2 ^ 15 * 1 = 32768 from rfl, ← h, Nat.add_comm]
  unfold advanceLfsr
  dsimp only
  split
  · rw [BitVec.toNat_or, hhalf]; exact hor
  · exact hhalf

/-! ### The generator over all commands (R144) -/

/-- The operations that touch the line of the link and keep the generator. -/
theorem taken_line_lfsr (rest : List RxFrame) (s : State) : (taken rest s).link.line.lfsr = s.link.line.lfsr := rfl

theorem leaveReset_line_lfsr (s : State) : (leaveReset s).link.line.lfsr = s.link.line.lfsr := by
  rcases leaveReset_cases s with h | ⟨_, _, h⟩
  · rw [h]
  · rw [h]; rfl

theorem holdNow_line_lfsr (s : State) : (holdNow s).link.line.lfsr = s.link.line.lfsr := rfl

theorem endHold_line_lfsr (s : State) : (endHold s).link.line.lfsr = s.link.line.lfsr := rfl

theorem strobeEffect_line_lfsr (s : State) : (strobeEffect s).link.line.lfsr = s.link.line.lfsr := by
  cases h : s.outstanding with
  | none => rw [strobeEffect_of_none h]; rfl
  | some u => rw [strobeEffect_of_some h, takeSet_line]; rfl

theorem judgeFrame_line_lfsr (f : RxFrame) (crc : BitVec 16) (s : State) :
    (judgeFrame f crc s).link.line.lfsr = s.link.line.lfsr := by
  unfold judgeFrame enqueueRx
  (repeat' split) <;> rfl

theorem startCandidate_line_lfsr (s : State) : (startCandidate s).link.line.lfsr = s.link.line.lfsr := by
  unfold startCandidate
  dsimp only
  (repeat' split) <;> rfl

theorem plainCommand_line_lfsr {effect : State → State} (heffect : ∀ s, (effect s).link.line.lfsr = s.link.line.lfsr)
    (f : RxFrame) (s : State) : (plainCommand effect f s).link.line.lfsr = s.link.line.lfsr := by
  unfold plainCommand refuseField
  split
  · rw [replyTo_line, heffect]
  · rw [replyTo_line]

theorem memoryCommand_line_lfsr {effect : RxFrame → State → State}
    (heffect : ∀ f s, (effect f s).link.line = s.link.line) (f : RxFrame) (s : State) :
    (memoryCommand effect f s).link.line.lfsr = s.link.line.lfsr := by
  unfold memoryCommand refuseField
  (repeat' split)
  · rw [replyTo_line]
  · rw [heffect]
  · rfl

theorem takeRestart_line_lfsr (f : RxFrame) (s : State) : (takeRestart f s).link.line.lfsr = s.link.line.lfsr := by
  unfold takeRestart refuseField
  dsimp only
  (repeat' split)
  · rw [offerPlain_line]; rfl
  · rfl
  · rw [replyTo_line]

/-- Every act but a collision and the end of START keeps the generator. -/
theorem Acts.lfsr {s t : State} {c : Instr} (h : Acts s c t) (hc : c ≠ .collision) (hx : ∀ x, c ≠ .startDone x) :
    t.link.line.lfsr = s.link.line.lfsr := by
  cases h with
  | startDone x => exact absurd rfl (hx x)
  | abandons => exact absurd rfl hc
  | collides => exact absurd rfl hc
  | powerOn => rfl
  | supplyLow => rfl
  | resetLine => rfl
  | linkRestart => rfl
  | resetCauseEnd cause =>
    rw [leaveReset_line_lfsr]
    cases cause <;> rfl
  | strobe => exact strobeEffect_line_lfsr s
  | overLength => rfl
  | frameBroken => rfl
  | frameComplete => rw [judgeFrame_line_lfsr]; rfl
  | startBitIdle => rfl
  | startBitQuiet => rfl
  | slotStarts => rw [startCandidate_line_lfsr]; rfl
  | slotPasses => rfl
  | transmissionComplete => rw [completeFrame_line]; rfl
  | hold => rw [plainCommand_line_lfsr holdNow_line_lfsr, taken_line_lfsr]
  | resume => rw [plainCommand_line_lfsr endHold_line_lfsr, taken_line_lfsr]
  | holdTimerExpiry => rfl
  | tempRequest => rw [plainCommand_line_lfsr fun _ => by rw [offerTemperature_line], taken_line_lfsr]
  | lock => rw [memoryCommand_line_lfsr takeLock_line, taken_line_lfsr]
  | erase => rw [memoryCommand_line_lfsr takeErase_line, taken_line_lfsr]
  | restart => rw [takeRestart_line_lfsr, taken_line_lfsr]
  | _ => simp [taken_line_lfsr]

/-- Settles O50: the slot in numbers, an advance bit by bit, and the commands that draw or seed. -/
theorem startSlotsAndBackoffGenerator : Obligations.StartSlotsAndBackoffGenerator := by
  unfold Obligations.StartSlotsAndBackoffGenerator
  refine ⟨fun n y f => ⟨fun h => ?_, fun h => ?_, fun h => ?_, frameClass_le _, fun h => ?_⟩, fun n m y z f g hnm h => hnm ?_,
    fun n m f g hf hg hclass => ?_, fun r => ⟨toNat_advanceLfsr r, fun h => advanceLfsr_ne_zero h⟩, backoffSeed_toNat,
    fun c s t h => ⟨fun hc => ⟨fun f hf hkept => ?_, fun hall => ?_⟩, fun x hx hs => ?_, fun hc hx => ?_⟩⟩
  · simp [startSlot_eq, h]
  · rw [startSlot_eq, h]; simp; omega
  · rw [startSlot_eq, h]; simp; omega
  · have hn := n.isLt
    rw [startSlot_eq]
    split_ifs <;> omega
  · have hn := n.isLt
    have hm := m.isLt
    rw [startSlot_eq, startSlot_eq] at h
    refine BitVec.eq_of_toNat_eq ?_
    split_ifs at h <;> omega
  · have hn := n.isLt
    have hm := m.isLt
    have hle := frameClass_le g.kind
    rw [startSlot_eq, startSlot_eq, hf, hg]
    split_ifs <;> omega
  · subst hc
    rw [exec_collision_kept hf hkept] at h
    obtain rfl := Host.Outcome.next.inj h
    exact line_lfsr (keepCollided_line f (bump .collisions s))
  · subst hc
    cases hf : sendingFrame s with
    | none =>
      have hnext : exec .collision s = .next s := by
        show execCollision s = _
        rw [execCollision, hf]
      rw [hnext] at h
      obtain rfl := Host.Outcome.next.inj h
      rfl
    | some f =>
      rw [exec_collision_last hf (hall f hf)] at h
      obtain rfl := Host.Outcome.next.inj h
      exact line_lfsr (abandonFrame_line f (bump .collisions s))
  · subst hx
    have hnext : exec (.startDone x) s = .next (enterSelftest (startWork x s)) := by simp [exec, execStartDone, hs]
    rw [hnext] at h
    obtain rfl := Host.Outcome.next.inj h
    rfl
  · rcases exec_next_acts h with rfl | hacts
    · rfl
    · refine hacts.lfsr hc fun x hxc => ?_
      subst hxc
      cases hacts with
      | startDone _ hs => exact hx x rfl hs

end Sys2Proof.Machine

namespace Sys2Proof.Machine

open Sys2Proof

/-! Admission to the transmit queue, and the READY entries at a freed place (O53). -/

/-! ### READY entries of distinct numbers are offered in the closing order (R99, R148) -/

/-- The READY entry of a number. -/
def readyNumbered (s : State) (n : BitVec 16) : Option Vehicle :=
  s.veh.entries.find? fun v => decide (v.number = n ∧ v.state = .ready)

/-- The READY entries of a list of numbers, in its order. -/
def readyAmong (l : List (BitVec 16)) (s : State) : List Vehicle := l.filterMap (readyNumbered s)

theorem readyInOrder_eq (s : State) : readyInOrder s = readyAmong s.veh.closingOrder s := rfl

/-- The station once the entries of `l` are QUEUED with their VEHICLE frames. -/
def queuedAll (l : List Vehicle) (s : State) : State :=
  (s.withVeh { s.veh with
      entries := s.veh.entries.map fun v => if v ∈ l then { v with state := .queued } else v }).withLink
    { s.link with queue := s.link.queue ++ l.map vehicleFrame }

theorem readyOffered_iff {u t : State} :
    ReadyOffered u t ↔ t = queuedAll ((readyInOrder u).take (15 - u.link.queue.length)) u :=
  ⟨fun ⟨_, hl, ht⟩ => hl ▸ ht, fun ht => ⟨_, rfl, ht⟩⟩

theorem queuedAll_nil (s : State) : queuedAll [] s = s := by
  simp only [queuedAll, List.not_mem_nil, if_false, List.map_id', List.map_nil, List.append_nil]
  rfl

theorem eq_of_number {l : List Vehicle} (h : (l.map Vehicle.number).Nodup) {v w : Vehicle} (hv : v ∈ l) (hw : w ∈ l)
    (heq : v.number = w.number) : v = w := List.inj_on_of_nodup_map h hv hw heq

theorem mem_readyAmong {l : List (BitVec 16)} {s : State} {v : Vehicle} (h : v ∈ readyAmong l s) :
    v ∈ s.veh.entries ∧ v.state = .ready := by
  obtain ⟨n, -, hn⟩ := List.mem_filterMap.1 h
  have hready := List.find?_some hn
  rw [decide_eq_true_iff] at hready
  exact ⟨List.mem_of_find?_eq_some hn, hready.2⟩

theorem readyAmong_nil_of_none {s : State} (h : ∀ v ∈ s.veh.entries, v.state ≠ .ready) (l : List (BitVec 16)) :
    readyAmong l s = [] :=
  List.eq_nil_iff_forall_not_mem.2 fun v hv => h v (mem_readyAmong hv).1 (mem_readyAmong hv).2

/-- The head of a list of numbers that names no READY entry adds nothing. -/
theorem readyAmong_cons_none {n : BitVec 16} {l : List (BitVec 16)} {s : State}
    (h : ∀ v ∈ s.veh.entries, v.number = n → v.state ≠ .ready) : readyAmong (n :: l) s = readyAmong l s := by
  have hnone : readyNumbered s n = none := by
    rw [readyNumbered, List.find?_eq_none]
    exact fun v hv => by simpa using h v hv
  rw [readyAmong, List.filterMap_cons_none hnone, readyAmong]

theorem readyAmong_cons_some {n : BitVec 16} {l : List (BitVec 16)} {s : State} {v : Vehicle}
    (hnodup : (s.veh.entries.map Vehicle.number).Nodup) (hv : v ∈ s.veh.entries) (hn : v.number = n) (hs : v.state = .ready) :
    readyAmong (n :: l) s = v :: readyAmong l s := by
  have hsome : readyNumbered s n = some v := by
    refine find?_unique hv (by simp [hn, hs]) fun w hw hpw => ?_
    rw [decide_eq_true_iff] at hpw
    exact eq_of_number hnodup hw hv (hpw.1.trans hn.symm)
  rw [readyAmong, List.filterMap_cons_some hsome, readyAmong]

/-- An entry QUEUED leaves the READY entries of other numbers as they are. -/
theorem readyAmong_admit {l : List (BitVec 16)} {s : State} {v : Vehicle} (hl : v.number ∉ l) :
    readyAmong l (admitVehicle v s) = readyAmong l s := by
  refine List.filterMap_congr fun n hn => ?_
  have hne : n ≠ v.number := fun h => hl (h ▸ hn)
  show (s.veh.entries.map _).find? _ = s.veh.entries.find? _
  rw [List.find?_map]
  have hpred : ((fun v : Vehicle => decide (v.number = n ∧ v.state = .ready)) ∘ fun w =>
      if w.number = v.number then { w with state := .queued } else w) =
      fun w => decide (w.number = n ∧ w.state = .ready) := by
    funext w
    by_cases hw : w.number = v.number
    · simp [Function.comp, hw, Ne.symm hne]
    · simp [Function.comp, hw]
  rw [hpred]
  cases hfind : s.veh.entries.find? fun w => decide (w.number = n ∧ w.state = .ready) with
  | none => rfl
  | some w =>
    have hw := List.find?_some hfind
    rw [decide_eq_true_iff] at hw
    rw [Option.map_some, if_neg fun h => hne (hw.1.symm.trans h)]

/-- One entry QUEUED, and then those of a list of other READY entries. -/
theorem queuedAll_admit {l : List Vehicle} {s : State} {v : Vehicle} (hnodup : (s.veh.entries.map Vehicle.number).Nodup)
    (hv : v ∈ s.veh.entries) (hl : ∀ w ∈ l, w.state = .ready) :
    queuedAll l (admitVehicle v s) = queuedAll (v :: l) s := by
  have hentries : ((s.veh.entries.map fun w => if w.number = v.number then { w with state := .queued } else w).map fun w =>
      if w ∈ l then { w with state := .queued } else w) =
      s.veh.entries.map fun w => if w ∈ v :: l then { w with state := .queued } else w := by
    rw [List.map_map]
    refine List.map_congr_left fun w hw => ?_
    by_cases hnum : w.number = v.number
    · obtain rfl := eq_of_number hnodup hw hv hnum
      have hno : ({ w with state := .queued } : Vehicle) ∉ l := fun h => absurd (hl _ h) (by simp)
      simp [Function.comp, hno]
    · have hne : w ≠ v := fun h => hnum (h ▸ rfl)
      simp [Function.comp, hnum, hne]
  have hqueue : s.link.queue ++ [vehicleFrame v] ++ l.map vehicleFrame = s.link.queue ++ (v :: l).map vehicleFrame := by simp
  unfold queuedAll
  rw [← hentries, ← hqueue]
  rfl

theorem admitVehicle_numbers (v : Vehicle) (s : State) :
    (admitVehicle v s).veh.entries.map Vehicle.number = s.veh.entries.map Vehicle.number := by
  show (s.veh.entries.map _).map _ = _
  rw [List.map_map]
  refine List.map_congr_left fun w _ => ?_
  by_cases hw : w.number = v.number <;> simp [Function.comp, hw]

/-- Offers of distinct entries: while two places are free each is QUEUED, and the first that finds fewer ends it. -/
theorem offerList_eq (l : List (BitVec 16)) (s : State) (hnodup : (s.veh.entries.map Vehicle.number).Nodup) (hl : l.Nodup) :
    offerList l s = queuedAll ((readyAmong l s).take (15 - s.link.queue.length)) s := by
  induction l generalizing s with
  | nil => simp [offerList, readyAmong, queuedAll_nil]
  | cons n l ih =>
    rw [List.nodup_cons] at hl
    unfold offerList
    split
    · next v hfind =>
      obtain ⟨hv, hn⟩ := findVehicle_some hfind
      split_ifs with hready hfree
      · have hle : s.link.queue.length + 2 ≤ 16 := of_decide_eq_true hfree
        obtain ⟨k, hk⟩ : ∃ k, 15 - s.link.queue.length = k + 1 := ⟨14 - s.link.queue.length, by omega⟩
        have hlen : 15 - (admitVehicle v s).link.queue.length = k := by
          show 15 - (s.link.queue ++ [vehicleFrame v]).length = k
          rw [List.length_append]
          exact (by simp; omega)
        rw [ih _ (admitVehicle_numbers v s ▸ hnodup) hl.2, hlen, readyAmong_admit (hn ▸ hl.1),
          readyAmong_cons_some hnodup hv hn hready, hk, List.take_succ_cons,
          queuedAll_admit hnodup hv fun w hw => (mem_readyAmong (List.mem_of_mem_take hw)).2]
      · have hge : 15 ≤ s.link.queue.length := by
          have h : ¬s.link.queue.length + 2 ≤ 16 := fun h => hfree (decide_eq_true h)
          omega
        rw [Nat.sub_eq_zero_of_le hge, List.take_zero, queuedAll_nil]
      · rw [ih s hnodup hl.2, readyAmong_cons_none fun w hw hwn => ?_]
        rwa [eq_of_number hnodup hw hv (hwn.trans hn.symm)]
    · next hfind =>
      rw [ih s hnodup hl.2, readyAmong_cons_none fun w hw hwn => ?_]
      rw [findVehicle, List.find?_eq_none] at hfind
      exact absurd hwn (by simpa using hfind w hw)

/-- The READY entries are offered in the closing order until the first refusal. -/
theorem readyOffered_offerReady {s : State} (h : OneClosingOrder s) : ReadyOffered s (offerReady s) := by
  rw [readyOffered_iff]
  rcases h with hnone | ⟨hnodup, horder⟩
  · rw [offerReady_none s hnone, readyInOrder_eq, readyAmong_nil_of_none hnone, List.take_nil, queuedAll_nil]
  · exact offerList_eq _ s hnodup horder

/-! ### A full queue (R149, R150) -/

theorem not_placeFree {s : State} (h : s.link.queue.length = 16) : placeFree s = false :=
  decide_eq_false (by rw [h]; decide)

theorem not_classTwoWaiting {l : List TxFrame} (h : ∀ x ∈ l, frameClass x.kind = 2 → x.sending = true) :
    l.any classTwoWaiting = false := by
  rw [List.any_eq_false]
  intro x hx
  simpa [classTwoWaiting] using h x hx

theorem not_vehicleWaiting {l : List TxFrame} (h : ∀ x ∈ l, x.kind = .vehicle → x.sending = true) :
    l.reverse.find? vehicleWaiting = none := by
  rw [List.find?_eq_none]
  intro x hx
  simpa [vehicleWaiting] using h x (by simpa using hx)

/-- At a full queue with a waiting class-2 frame, an urgent frame displaces it. -/
theorem offerUrgent_displacesClassTwo {f : TxFrame} {s : State} (hfull : s.link.queue.length = 16)
    (h : s.link.queue.any classTwoWaiting = true) : offerUrgent f s =
      (takePlace f (txDrop (withQueue s (dropFirst classTwoWaiting s.link.queue))), true) := by
  rw [offerUrgent, if_neg (by simp [not_placeFree hfull]), if_pos h]

/-- At a full queue without a waiting class-2 frame, a class-0 frame displaces the newest waiting VEHICLE frame. -/
theorem offerUrgent_displacesVehicle {f v : TxFrame} {s : State} (hfull : s.link.queue.length = 16)
    (h : s.link.queue.any classTwoWaiting = false) (hclass : frameClass f.kind = 0)
    (hv : s.link.queue.reverse.find? vehicleWaiting = some v) : offerUrgent f s =
      (takePlace f (returnToReady v (withQueue s (dropLast vehicleWaiting s.link.queue))), true) := by
  rw [offerUrgent, if_neg (by simp [not_placeFree hfull]), if_neg (by simp [h]), if_pos hclass, hv]

theorem offerUrgent_refuses {f : TxFrame} {s : State} (hfull : s.link.queue.length = 16)
    (h : s.link.queue.any classTwoWaiting = false) (hclass : frameClass f.kind ≠ 0) : offerUrgent f s = (s, false) := by
  rw [offerUrgent, if_neg (by simp [not_placeFree hfull]), if_neg (by simp [h]), if_neg hclass]

theorem offerUrgent_drops {f : TxFrame} {s : State} (hfull : s.link.queue.length = 16)
    (h : s.link.queue.any classTwoWaiting = false) (hclass : frameClass f.kind = 0)
    (hv : s.link.queue.reverse.find? vehicleWaiting = none) : offerUrgent f s = (txDrop s, false) := by
  rw [offerUrgent, if_neg (by simp [not_placeFree hfull]), if_neg (by simp [h]), if_pos hclass, hv]

theorem txDrop_queue_payload (s : State) : (txDrop s).link.queue.map TxFrame.payload = s.link.queue.map TxFrame.payload :=
  raise_queue_map _ (fun _ _ => rfl) _ _

/-- Settles O53, by the free places and what can be displaced. -/
theorem admissionFollowsTheFreePlaces : Obligations.AdmissionFollowsTheFreePlaces := by
  unfold Obligations.AdmissionFollowsTheFreePlaces
  refine ⟨fun f s h => ⟨offerPlain_room h, offerUrgent_room h⟩, fun f s hfull => ?_,
    fun f g before behind s hq hfull hclass hsend hbefore => ?_,
    fun f g before behind n s hq hfull htwo hclass hkind hsend hn hbehind => ?_,
    fun f s hfull htwo => ⟨fun hclass => offerUrgent_refuses hfull (not_classTwoWaiting htwo) hclass, fun hclass hv => ?_⟩,
    fun f g before behind s hq hkind hsend hbefore => ?_, fun s h => readyOffered_offerReady h, offerReady_none,
    fun s v order hentries horder hready => ?_⟩
  · rw [offerPlain_eq, if_neg (by omega)]
    exact ⟨rfl, rfl, rfl, rfl, txDrop_queue_payload s⟩
  · have hdrop : dropFirst classTwoWaiting s.link.queue = before ++ behind := by
      rw [hq]
      exact dropFirst_at _ _ _ _ (fun x hx => by simpa [classTwoWaiting] using hbefore x hx)
        (by simp [classTwoWaiting, hclass, hsend])
    rw [offerUrgent_displacesClassTwo hfull (List.any_eq_true.2 ⟨g, by simp [hq], by simp [classTwoWaiting, hclass, hsend]⟩),
      hdrop]
    refine ⟨rfl, rfl, rfl, rfl, ?_⟩
    have hpayload := txDrop_queue_payload (withQueue s (before ++ behind))
    show ((txDrop (withQueue s (before ++ behind))).link.queue ++ [f]).map TxFrame.payload = _
    rw [List.map_append, hpayload, List.map_append (l₁ := before ++ behind)]
    rfl
  · have hwait : vehicleWaiting g = true := by simp [vehicleWaiting, hkind, hsend]
    have hno : ∀ x ∈ behind, vehicleWaiting x = false := fun x hx => by simpa [vehicleWaiting] using hbehind x hx
    have hfind : s.link.queue.reverse.find? vehicleWaiting = some g := by
      rw [hq, List.reverse_append, List.reverse_cons, List.append_assoc]
      exact find_at _ _ _ _ (fun x hx => hno x (by simpa using hx)) hwait
    have hdrop : dropLast vehicleWaiting s.link.queue = before ++ behind := by
      rw [hq]
      exact dropLast_at _ _ _ _ hno hwait
    rw [offerUrgent_displacesVehicle hfull (not_classTwoWaiting htwo) hclass hfind, hdrop, returnToReady, hn]
    rfl
  · rw [offerUrgent_drops hfull (not_classTwoWaiting htwo) hclass (not_vehicleWaiting hv)]
    exact ⟨rfl, rfl, rfl⟩
  · have hwait : beaconWaiting g = true := by simp [beaconWaiting, hkind, hsend]
    rw [offerBeacon, if_pos (List.any_eq_true.2 ⟨g, by simp [hq], hwait⟩), hq,
      changeFirst_at _ _ _ _ _ (fun x hx => by simpa [beaconWaiting] using hbefore x hx) hwait]
    rfl
  · have hfind : findVehicle v.number s = some v := by simp [findVehicle, hentries]
    refine ⟨fun hge => ?_, fun hle => ?_⟩
    · have hno : twoFree s = false := decide_eq_false (by show ¬s.link.queue.length + 2 ≤ 16; omega)
      simp [offerReady, horder, offerList, hfind, hready, hno]
    · have hyes : twoFree s = true := decide_eq_true (by show s.link.queue.length + 2 ≤ 16; omega)
      have hadmit : (admitVehicle v s).veh.entries = [{ v with state := .queued }] := by
        simp [admitVehicle, changeVehicle, takePlace, withQueue, hentries]
      have hoffer : offerReady s = admitVehicle v s := by
        rw [offerReady, horder, offerList, hfind]
        dsimp only
        rw [if_pos hready, if_pos hyes]
        exact offerList_none _ _ (by rw [hadmit]; simp)
      rw [hoffer]
      exact ⟨hadmit, rfl⟩

end Sys2Proof.Machine

namespace Sys2Proof.Machine

open Sys2Proof

/-! Frames that leave: collisions and completions (O51, O52). -/

/-! ### The frame in transmission -/

theorem sendingImmediate_of {s : State} {f : TxFrame} (himm : s.link.immediate = some f) (hf : f.sending = true) :
    sendingImmediate s = true := by simp [sendingImmediate, himm, hf]

theorem sendingFrame_immediate {s : State} {f : TxFrame} (himm : s.link.immediate = some f) (hf : f.sending = true) :
    sendingFrame s = some f := by simp [sendingFrame, himm, hf]

theorem sendingFrame_queue {s : State} {f : TxFrame} {before behind : List TxFrame} (himm : sendingImmediate s = false)
    (hq : s.link.queue = before ++ f :: behind) (hf : f.sending = true) (hbefore : ∀ x ∈ before, x.sending = false) :
    sendingFrame s = some f := by
  have hfind : s.link.queue.find? TxFrame.sending = some f := by rw [hq]; exact find_at _ _ _ _ hbefore hf
  unfold sendingFrame
  split
  · next g hg => rw [if_neg (by simpa [sendingImmediate, hg] using himm), hfind]
  · exact hfind

/-- The frame in transmission leaves its place in the queue. -/
theorem removeSending_queue {s : State} {f : TxFrame} {before behind : List TxFrame} (himm : sendingImmediate s = false)
    (hq : s.link.queue = before ++ f :: behind) (hf : f.sending = true) (hbefore : ∀ x ∈ before, x.sending = false) :
    removeSending s = withQueue s (before ++ behind) := by
  rw [removeSending, if_neg (by simp [himm]), hq, dropFirst_at _ _ _ _ hbefore hf]

theorem removeSending_slot {s : State} (himm : sendingImmediate s = true) : removeSending s = withImmediate s none :=
  if_pos himm

theorem useFreedPlace_queue (s : State) : useFreedPlace false s = offerReady s := rfl

/-- The emptied immediate slot takes the oldest queued OVERLOAD frame. -/
theorem refillImmediate_at {s : State} {g : TxFrame} {before behind : List TxFrame}
    (hq : s.link.queue = before ++ g :: behind) (hg : g.kind = .overload) (hbefore : ∀ x ∈ before, x.kind ≠ .overload) :
    refillImmediate s = offerReady (s.withLink { s.link with immediate := some g, queue := before ++ behind }) := by
  have htake : takeFirst isOverload s.link.queue = some (g, before ++ behind) := by
    rw [hq]
    exact takeFirst_at _ _ _ _ (fun x hx => by simpa [isOverload] using hbefore x hx) (by simp [isOverload, hg])
  rw [refillImmediate, htake]

/-! ### Notices (R184, R185) -/

/-- The mark of a notice that clears on report. -/
def Raised.mark (r : Raised) : Notice → Bool
  | .linkFault => r.linkFault
  | .duplicateId => r.duplicateId
  | .queueLoss => r.queueLoss
  | .mergeConflict => r.mergeConflict
  | .peerOverflow => r.peerOverflow
  | .calCheck | .channelFault | .laneConflict | .probeFault | .tempDefault | .peerDrift | .presenceStuck => false

theorem isPending_eq_mark {n : Notice} (h : clearsOnReport n = true) (s : State) : isPending s n = s.raised.mark n := by
  cases n with
  | linkFault | duplicateId | queueLoss | mergeConflict | peerOverflow => rfl
  | calCheck | channelFault | laneConflict | probeFault | tempDefault | peerDrift | presenceStuck => cases h

/-- A condition notice reads blocks, station and presence alone. -/
theorem isPending_condition {n : Notice} (h : clearsOnReport n = false) {s u : State} (hcal : u.cal = s.cal) (hdet : u.det = s.det)
    (hpeers : u.peers = s.peers) (hstraps : u.straps = s.straps) (hsetup : u.setup = s.setup) (htemp : u.temp = s.temp)
    (hctl : u.ctl = s.ctl) (hpresence : u.veh.presence = s.veh.presence) : isPending u n = isPending s n := by
  cases n with
  | linkFault | duplicateId | queueLoss | mergeConflict | peerOverflow => cases h
  | calCheck => simp only [isPending, hcal]
  | channelFault => simp only [isPending, hdet]
  | laneConflict =>
    have hclaimants : claimants u = claimants s := funext fun _ => by rw [claimants, hpeers, claimants]
    have hlane : ownLane u = ownLane s := by rw [ownLane, hstraps, ownLane]
    simp only [isPending]
    rw [laneConflict, hclaimants, hlane, hstraps, laneConflict]
  | probeFault => simp only [isPending, probeFault, hsetup, htemp]
  | tempDefault => simp only [isPending, outOfReset, htemp, hctl]
  | peerDrift => simp only [isPending, hpeers]
  | presenceStuck => simp only [isPending, hpresence]

theorem mark_put (r : Raised) {n : Notice} (h : clearsOnReport n = true) (m : Notice) (b : Bool) :
    (r.put m b).mark n = if m = n then b else r.mark n := by
  cases n with
  | calCheck | channelFault | laneConflict | probeFault | tempDefault | peerDrift | presenceStuck => cases h
  | linkFault => cases m <;> rfl
  | duplicateId => cases m <;> rfl
  | queueLoss => cases m <;> rfl
  | mergeConflict => cases m <;> rfl
  | peerOverflow => cases m <;> rfl

theorem mark_clear (l : List Notice) (r : Raised) {n : Notice} (h : clearsOnReport n = true) :
    (l.foldl (fun r n => r.put n false) r).mark n = (r.mark n && !l.contains n) := by
  induction l generalizing r with
  | nil => simp
  | cons m l ih =>
    rw [List.foldl_cons, ih, mark_put r h, List.contains_cons]
    by_cases hm : m = n
    · simp [hm]
    · have hne : (n == m) = false := by simpa using Ne.symm hm
      simp [hm, hne]

/-- The notices once a completed frame has cleared the kinds it carried. -/
theorem isPending_clearNotices {s u : State} {l : List Notice} (hraised : u.raised = s.raised) (hcal : u.cal = s.cal)
    (hdet : u.det = s.det) (hpeers : u.peers = s.peers) (hstraps : u.straps = s.straps) (hsetup : u.setup = s.setup)
    (htemp : u.temp = s.temp) (hctl : u.ctl = s.ctl) (hpresence : u.veh.presence = s.veh.presence) (n : Notice) :
    isPending (clearNotices l u) n = (isPending s n && !(l.contains n && clearsOnReport n)) := by
  cases h : clearsOnReport n with
  | true =>
    rw [isPending_eq_mark h, isPending_eq_mark h, ← hraised, Bool.and_true]
    exact mark_clear l u.raised h
  | false =>
    rw [Bool.and_false, Bool.not_false, Bool.and_true]
    exact isPending_condition h hcal hdet hpeers hstraps hsetup htemp hctl hpresence

theorem isPending_raise (n : Notice) (s : State) (hn : clearsOnReport n = true) :
    isPending (raise n s) n = true ∧ ∀ m, m ≠ n → isPending (raise n s) m = isPending s m := by
  refine ⟨?_, fun m hm => ?_⟩
  · rw [isPending_eq_mark hn]
    exact (mark_put _ hn _ _).trans (if_pos rfl)
  · cases h : clearsOnReport m with
    | true =>
      rw [isPending_eq_mark h, isPending_eq_mark h]
      exact (mark_put _ h _ _).trans (if_neg (Ne.symm hm))
    | false => exact isPending_condition h rfl rfl rfl rfl rfl rfl rfl rfl

/-! ### Completions (R141, R146, R147, R185, R99) -/

theorem oneClosingOrder_freeVehicle {s : State} (h : OneClosingOrder s) (number : BitVec 16) :
    OneClosingOrder (freeVehicle number s) := by
  rcases h with hnone | ⟨hnodup, horder⟩
  · exact .inl fun v hv => hnone v (List.mem_of_mem_filter hv)
  · exact .inr ⟨hnodup.sublist (List.filter_sublist.map _), horder.filter _⟩

/-- A completed frame of the queue, before the freed place is offered. -/
theorem completeFrame_queue {s : State} {f : TxFrame} {before behind : List TxFrame} (himm : sendingImmediate s = false)
    (hq : s.link.queue = before ++ f :: behind) (hf : f.sending = true) (hbefore : ∀ x ∈ before, x.sending = false) :
    completeFrame f s = offerReady (clearNotices f.clears (vehicleSent f
      (s.withLink { completedLink s f with queue := before ++ behind }))) := by
  have hremove : removeSending (s.withLink (completedLink s f)) =
      s.withLink { completedLink s f with queue := before ++ behind } :=
    removeSending_queue (s := s.withLink (completedLink s f)) himm hq hf hbefore
  rw [completeFrame, himm, useFreedPlace_queue, hremove]

theorem completedLink_of_class (s : State) (f : TxFrame) : completedLink s f = { s.link with
      rxPath := .idle
      yieldFlag := s.link.yieldFlag || decide (frameClass f.kind = 1 ∨ frameClass f.kind = 2)
      lastSent := wireBytes (kindCode f.kind) (ownNumber s) f.dest f.payload } := by
  have hclass := frameClass_le f.kind
  have hiff : frameClass f.kind ≠ 0 ↔ frameClass f.kind = 1 ∨ frameClass f.kind = 2 := by omega
  simp only [completedLink, hiff]

/-- A completed immediate OVERLOAD frame leaves the slot, which is then refilled. -/
theorem completeFrame_slot {s : State} {f : TxFrame} (himm : s.link.immediate = some f) (hf : f.sending = true)
    (hkind : f.kind = .overload) (hclears : f.clears = []) (hveh : f.vehicle = none) :
    completeFrame f s = refillImmediate (s.withLink { s.link with
      rxPath := .idle, immediate := none, lastSent := wireBytes 0x01 (ownNumber s) f.dest f.payload }) := by
  have hslot : sendingImmediate s = true := sendingImmediate_of himm hf
  have hlink : completedLink s f = { s.link with
      rxPath := .idle, lastSent := wireBytes 0x01 (ownNumber s) f.dest f.payload } := by
    simp [completedLink, hkind, frameClass, kindCode]
  have hsent : ∀ z, vehicleSent f z = z := fun z => by rw [vehicleSent, hveh]
  rw [completeFrame, hslot, hsent, hclears, removeSending_slot (s := s.withLink (completedLink s f)) hslot, hlink]
  rfl

/-- Settles O52, for a queued frame, an immediate one, and the notices. -/
theorem completionsTellTheirBlock : Obligations.CompletionsTellTheirBlock := by
  unfold Obligations.CompletionsTellTheirBlock
  refine ⟨fun s f before behind hf himm hq hbefore hone => ?_, fun s f hf himm hkind hclears hveh => ⟨fun hnone => ?_,
    fun g before behind hq hg hbefore hone => ?_⟩, fun s => rfl, fun s n hn => ⟨(isPending_raise n s hn).1, fun f hq => ?_,
      (isPending_raise n s hn).2⟩⟩
  · have hslot : sendingImmediate s = false := by
      cases hi : s.link.immediate with
      | none => simp [sendingImmediate, hi]
      | some g => simp [sendingImmediate, hi, himm g hi]
    have hexec := exec_transmissionComplete (sendingFrame_queue hslot hq hf hbefore)
    rw [completeFrame_queue hslot hq hf hbefore] at hexec
    generalize hz : s.withLink { completedLink s f with queue := before ++ behind } = z at hexec
    have hlink : z.link = { completedLink s f with queue := before ++ behind } := by rw [← hz]; rfl
    rw [completedLink_of_class] at hlink
    cases hveh : f.vehicle with
    | none =>
      have hsent : vehicleSent f z = z := by rw [vehicleSent, hveh]
      rw [hsent] at hexec
      refine ⟨clearNotices f.clears z, _, hexec, readyOffered_offerReady (by rw [← hz]; exact hone), hlink, fun n => ?_,
        fun _ => ?_, fun n hn => by simp at hn, ?_, ?_, ?_⟩
      · rw [← hz]
        exact isPending_clearNotices (s := s) (u := s.withLink _) rfl rfl rfl rfl rfl rfl rfl rfl rfl n
      · rw [← hz]; exact ⟨rfl, rfl⟩
      · rw [← hz]; rfl
      · rw [← hz]; rfl
      · rw [← hz]; simp [SameMeasuring, clearNotices]
    | some number =>
      have hsent : vehicleSent f z = bump .vehiclesSent (freeVehicle number z) := by rw [vehicleSent, hveh]
      rw [hsent] at hexec
      refine ⟨clearNotices f.clears (bump .vehiclesSent (freeVehicle number z)), _, hexec, readyOffered_offerReady ?_, hlink,
        fun n => ?_, fun hn => by simp at hn, fun n hn => ?_, ?_, ?_, ?_⟩
      · rw [← hz]; exact oneClosingOrder_freeVehicle hone number
      · rw [← hz]
        exact isPending_clearNotices (s := s) (u := bump .vehiclesSent (freeVehicle number (s.withLink _)))
          rfl rfl rfl rfl rfl rfl rfl rfl rfl n
      · obtain rfl := Option.some.inj hn
        rw [← hz]; exact ⟨rfl, rfl⟩
      · rw [← hz]; rfl
      · rw [← hz]; rfl
      · rw [← hz]; simp [SameMeasuring, clearNotices, freeVehicle]
  · rw [exec_transmissionComplete (sendingFrame_immediate himm hf), completeFrame_slot himm hf hkind hclears hveh]
    exact congrArg Host.Outcome.next (refillImmediate_none hnone)
  · exact ⟨_, (exec_transmissionComplete (sendingFrame_immediate himm hf)).trans (congrArg Host.Outcome.next
      ((completeFrame_slot himm hf hkind hclears hveh).trans (refillImmediate_at hq hg hbefore))),
      readyOffered_offerReady hone⟩
  · obtain ⟨g, -, rfl⟩ := List.mem_map.1 hq
    simp

end Sys2Proof.Machine

namespace Sys2Proof.Machine

open Sys2Proof

/-! Collisions (O51). -/

theorem sendingImmediate_eq (s : State) : (s.link.immediate.map TxFrame.sending).getD false = sendingImmediate s := rfl

/-- A frame as its collision leaves it: counted, with its draw, no longer in transmission (R143). -/
def collided (r : BitVec 16) (f : TxFrame) : TxFrame :=
  { f with
    sending := false, collisions := f.collisions + 1
    backoff := r.toNat % 2 ^ min (f.collisions + 1) 4 }

theorem not_discarded {f : TxFrame} {s : State} (h : f.kind = .beacon → s.link.queue.any beaconWaiting = false) :
    (decide (f.kind = .beacon) && s.link.queue.any beaconWaiting) = false := by
  by_cases hk : f.kind = .beacon
  · simp [h hk]
  · simp [hk]

/-- A collision in the immediate slot. -/
theorem keepCollided_slot {s : State} {f : TxFrame} (himm : s.link.immediate = some f) (hf : f.sending = true)
    (hkind : f.kind = .overload) : keepCollided f s = s.withLink { s.link with
      lfsr := advanceLfsr s.link.lfsr, immediate := some (collided (advanceLfsr s.link.lfsr) f) } := by
  have hslot : sendingImmediate (s.withLink { s.link with lfsr := advanceLfsr s.link.lfsr }) = true :=
    sendingImmediate_of (s := s.withLink { s.link with lfsr := advanceLfsr s.link.lfsr }) himm hf
  have hkept := not_discarded (f := f) (s := s) fun h => by rw [hkind] at h; cases h
  rw [keepCollided]
  dsimp only
  rw [hkept, changeSending, if_neg (by simp), if_pos hslot]
  simp only [withImmediate, State.withLink_link, himm, Option.map_some]
  rfl

/-- A collision in the queue, of a frame that stays in its place. -/
theorem keepCollided_queue {s : State} {f : TxFrame} {before behind : List TxFrame} (himm : sendingImmediate s = false)
    (hq : s.link.queue = before ++ f :: behind) (hf : f.sending = true) (hbefore : ∀ x ∈ before, x.sending = false)
    (hkept : f.kind = .beacon → s.link.queue.any beaconWaiting = false) : keepCollided f s = s.withLink { s.link with
      lfsr := advanceLfsr s.link.lfsr, queue := before ++ collided (advanceLfsr s.link.lfsr) f :: behind } := by
  have hslot : ¬sendingImmediate (s.withLink { s.link with lfsr := advanceLfsr s.link.lfsr }) = true := by
    show ¬sendingImmediate s = true
    simp [himm]
  rw [keepCollided]
  dsimp only
  rw [not_discarded hkept, changeSending, if_neg (by simp), if_neg hslot]
  simp only [State.withLink_link, hq]
  rw [changeFirst_at _ _ _ _ _ hbefore hf]
  rfl

/-- A beacon that collides while another waits leaves the queue (assumption 18). -/
theorem keepCollided_discards {s : State} {f : TxFrame} {before behind : List TxFrame} (himm : sendingImmediate s = false)
    (hq : s.link.queue = before ++ f :: behind) (hf : f.sending = true) (hbefore : ∀ x ∈ before, x.sending = false)
    (hkind : f.kind = .beacon) (hwait : s.link.queue.any beaconWaiting = true) : keepCollided f s = offerReady (s.withLink
      { s.link with lfsr := advanceLfsr s.link.lfsr, queue := before ++ behind }) := by
  have hremove : removeSending (s.withLink { s.link with lfsr := advanceLfsr s.link.lfsr }) =
      s.withLink { s.link with lfsr := advanceLfsr s.link.lfsr, queue := before ++ behind } :=
    removeSending_queue (s := s.withLink { s.link with lfsr := advanceLfsr s.link.lfsr }) himm hq hf hbefore
  rw [keepCollided]
  dsimp only
  rw [if_pos (by simp [hkind, hwait]), hremove]

/-- A frame that a raise of a notice keeps from clearing it (R185). -/
def unclearing (n : Notice) (f : TxFrame) : TxFrame := { f with clears := f.clears.filter fun m => decide (m ≠ n) }

/-- The station once an abandoned frame has left its place and LINK_FAULT is raised, its queue and slot as given. -/
def abandoned (slot : Option TxFrame) (q : List TxFrame) (s : State) : State :=
  raise .linkFault (bump .abandoned (s.withLink { s.link with immediate := slot, queue := q }))

theorem abandoned_spec (slot : Option TxFrame) (q : List TxFrame) (s : State) :
    (abandoned slot q s).link.lfsr = s.link.lfsr ∧ (abandoned slot q s).link.immediate = slot ∧
      (abandoned slot q s).link.queue.map TxFrame.payload = q.map TxFrame.payload ∧
      (abandoned slot q s).raised = { s.raised with linkFault := true } ∧
      (abandoned slot q s).counters = s.counters.bump .abandoned ∧ (abandoned slot q s).veh = s.veh ∧
      SameMeasuring s (abandoned slot q s) :=
  ⟨rfl, rfl, raise_queue_map _ (fun _ _ => rfl) _ _, rfl, rfl, rfl, by simp [SameMeasuring, abandoned]⟩

theorem abandoned_queue (slot : Option TxFrame) (q : List TxFrame) (s : State) :
    (abandoned slot q s).link.queue = q.map (unclearing .linkFault) := rfl

theorem bump_link (k : Counter) (s : State) : (bump k s).link = s.link := rfl

theorem abandonFrame_slot {s : State} {f : TxFrame} (himm : s.link.immediate = some f) (hf : f.sending = true)
    (hveh : f.vehicle = none) : abandonFrame f s = refillImmediate (abandoned none s.link.queue s) := by
  have hslot : sendingImmediate s = true := sendingImmediate_of himm hf
  rw [abandonFrame, hslot, returnToReady, hveh, removeSending_slot hslot]
  rfl

theorem abandonFrame_queue {s : State} {f : TxFrame} {before behind : List TxFrame} (himm : sendingImmediate s = false)
    (hq : s.link.queue = before ++ f :: behind) (hf : f.sending = true) (hbefore : ∀ x ∈ before, x.sending = false) :
    abandonFrame f s = offerReady (returnToReady f (abandoned s.link.immediate (before ++ behind) s)) := by
  rw [abandonFrame, himm, removeSending_queue himm hq hf hbefore, useFreedPlace_queue]
  rfl

theorem numbersDistinct_returnToReady {s : State} (h : NumbersDistinct s) (f : TxFrame) :
    NumbersDistinct (returnToReady f s) := by
  obtain ⟨hnodup, horder⟩ := h
  unfold returnToReady
  split
  · next n hn =>
    refine ⟨?_, horder⟩
    have hmap : (changeVehicle n (fun v => { v with state := .ready }) s).veh.entries.map Vehicle.number =
        s.veh.entries.map Vehicle.number := by
      rw [changeVehicle_entries, List.map_map]
      refine List.map_congr_left fun v _ => ?_
      by_cases hv : v.number = n <;> simp [Function.comp, hv]
    rwa [hmap]
  · exact ⟨hnodup, horder⟩

/-- Settles O51, by the place of the frame and its count. -/
theorem collisionsDrawOrAbandon : Obligations.CollisionsDrawOrAbandon := by
  unfold Obligations.CollisionsDrawOrAbandon
  intro s f before behind hf
  refine ⟨fun himm hlt hkind => ?_, fun himm hlast hkind hveh hnone => ?_, fun g himm hlast hkind hveh hq hg hbefore hone => ?_,
    fun himm hq hbefore => ?_⟩
  · rw [exec_collision_kept (sendingFrame_immediate himm hf) hlt,
      keepCollided_slot (s := bump .collisions s) himm hf hkind]
    rfl
  · have hrefill : refillImmediate (abandoned none s.link.queue (bump .collisions s)) =
        abandoned none s.link.queue (bump .collisions s) := refillImmediate_none fun x hx => by
      obtain ⟨y, hy, rfl⟩ := List.mem_map.1 hx
      exact hnone y hy
    obtain ⟨hlfsr, hslot, hqueue, hraised, hcounters, hvehicles, hsame⟩ := abandoned_spec none s.link.queue (bump .collisions s)
    refine ⟨_, ?_, hslot, hlfsr, hqueue, hraised, hcounters, hvehicles, hsame⟩
    rw [exec_collision_last (sendingFrame_immediate himm hf) hlast.ge,
      abandonFrame_slot (s := bump .collisions s) himm hf hveh]
    exact congrArg Host.Outcome.next hrefill
  · have hexec := exec_collision_last (sendingFrame_immediate himm hf) hlast.ge
    rw [abandonFrame_slot (s := bump .collisions s) himm hf hveh, bump_link] at hexec
    have hmapped : (abandoned none s.link.queue (bump .collisions s)).link.queue = before.map (unclearing .linkFault) ++
        unclearing .linkFault g :: behind.map (unclearing .linkFault) := by
      rw [abandoned_queue, hq, List.map_append, List.map_cons]
    have hfirst : ∀ x ∈ before.map (unclearing .linkFault), x.kind ≠ .overload := fun x hx => by
      obtain ⟨y, hy, rfl⟩ := List.mem_map.1 hx
      exact hbefore y hy
    have hpayload : ∀ l : List TxFrame, (l.map (unclearing .linkFault)).map TxFrame.payload = l.map TxFrame.payload :=
      fun l => by rw [List.map_map]; rfl
    rw [refillImmediate_at hmapped hg hfirst] at hexec
    obtain ⟨hlfsr, -, -, hraised, hcounters, hvehicles, hsame⟩ := abandoned_spec none s.link.queue (bump .collisions s)
    generalize abandoned none s.link.queue (bump .collisions s) = z at *
    refine ⟨_, _, hexec, readyOffered_offerReady ?_, rfl, ?_, hlfsr, hraised, hcounters, hvehicles, hsame⟩
    · show OneClosingOrder z
      unfold OneClosingOrder NumbersDistinct
      rw [hvehicles]
      exact hone
    · simp only [State.withLink_link, List.map_append, hpayload]
  · rw [sendingImmediate_eq] at himm
    have hframe := sendingFrame_queue himm hq hf hbefore
    refine ⟨fun hlt hother => ?_, fun hlt hkind hwait hone => ?_, fun hlast hveh hone => ?_, fun n hlast hveh hdistinct => ?_⟩
    · have hnone : f.kind = .beacon → (bump .collisions s).link.queue.any beaconWaiting = false := fun hk => by
        rw [List.any_eq_false]
        intro x hx
        rw [show (bump .collisions s).link.queue = _ from hq, List.mem_append, List.mem_cons] at hx
        rcases hx with hx | rfl | hx
        · simpa [beaconWaiting] using hother hk x (by simp [hx])
        · simp [beaconWaiting, hf]
        · simpa [beaconWaiting] using hother hk x (by simp [hx])
      rw [exec_collision_kept hframe hlt, keepCollided_queue (s := bump .collisions s) himm hq hf hbefore hnone]
      rfl
    · have hany : (bump .collisions s).link.queue.any beaconWaiting = true := by
        obtain ⟨x, hx, hxk, hxs⟩ := hwait
        refine List.any_eq_true.2 ⟨x, ?_, by simp [beaconWaiting, hxk, hxs]⟩
        rw [show (bump .collisions s).link.queue = _ from hq]
        simp at hx ⊢
        tauto
      refine ⟨_, (exec_collision_kept hframe hlt).trans (congrArg Host.Outcome.next
        (keepCollided_discards (s := bump .collisions s) himm hq hf hbefore hkind hany)), ?_⟩
      exact readyOffered_offerReady (s := (bump .collisions s).withLink _) hone
    · have hexec := exec_collision_last hframe hlast.ge
      have hback : ∀ z, returnToReady f z = z := fun z => by rw [returnToReady, hveh]
      rw [abandonFrame_queue (s := bump .collisions s) himm hq hf hbefore, hback] at hexec
      obtain ⟨hlfsr, hslot, hqueue, hraised, hcounters, hvehicles, hsame⟩ :=
        abandoned_spec s.link.immediate (before ++ behind) (bump .collisions s)
      exact ⟨_, _, hexec, readyOffered_offerReady hone, hlfsr, hslot, hqueue, hraised, hcounters, hvehicles, hsame⟩
    · have hexec := exec_collision_last hframe hlast.ge
      rw [abandonFrame_queue (s := bump .collisions s) himm hq hf hbefore, bump_link] at hexec
      have hdist := numbersDistinct_returnToReady (s := abandoned s.link.immediate (before ++ behind) (bump .collisions s))
        hdistinct f
      have hback : returnToReady f (abandoned s.link.immediate (before ++ behind) (bump .collisions s)) =
          changeVehicle n (fun v => { v with state := .ready })
            (abandoned s.link.immediate (before ++ behind) (bump .collisions s)) := by rw [returnToReady, hveh]
      obtain ⟨hlfsr, hslot, hqueue, hraised, hcounters, hvehicles, hsame⟩ :=
        abandoned_spec s.link.immediate (before ++ behind) (bump .collisions s)
      refine ⟨_, _, hexec, readyOffered_offerReady (.inr hdist), ?_⟩
      rw [hback]
      exact ⟨hlfsr, hslot, hqueue, rfl, hraised, hcounters, by simp [SameMeasuring, abandoned]⟩

end Sys2Proof.Machine

namespace Sys2Proof.Machine

open Sys2Proof

/-! Classes and overload screening (O44, O45). -/

/-! ### The class (R105 to R108) -/

theorem matchOf_none {w : Working} {v : Vehicle} (h : totalAxles v < 2 ∨ 9 < totalAxles v) : matchOf w v = none :=
  if_neg (by omega)

theorem matchOf_page {w : Working} {v : Vehicle} {page : List ClassEntry} (h2 : 2 ≤ totalAxles v) (h9 : totalAxles v ≤ 9)
    (hpage : w.pages[totalAxles v - 2]? = some page) : matchOf w v = firstMatch v.axles page := by
  rw [matchOf, if_pos ⟨h2, h9⟩, List.getD_eq_getElem?_getD, hpage, Option.getD_some]

theorem firstMatch_at {l : List Axle} {before behind : List ClassEntry} {c : ClassEntry}
    (hbefore : ∀ x ∈ before, entryMatches l x = false) (hc : entryMatches l c = true) :
    firstMatch l (before ++ c :: behind) = some (c, before.length) := by
  rw [firstMatch, List.zipIdx_append, List.zipIdx_cons, Nat.zero_add]
  exact find_at _ _ _ _ (fun x hx => hbefore x.1 (List.fst_mem_of_mem_zipIdx hx)) hc

theorem firstMatch_none {l : List Axle} {page : List ClassEntry} (h : ∀ x ∈ page, entryMatches l x = false) :
    firstMatch l page = none := by
  rw [firstMatch, List.find?_eq_none]
  exact fun x hx => by simp [h x.1 (List.fst_mem_of_mem_zipIdx hx)]

theorem classify_cls (w : Working) (i : ScreenInput) (v : Vehicle) : (classify w i v).cls = classOfVehicle w v := rfl

theorem classify_entry (w : Working) (i : ScreenInput) (v : Vehicle) :
    (classify w i v).entry = (matchOf w v).map Prod.snd := rfl

theorem classOfVehicle_short {w : Working} {v : Vehicle} (h : totalAxles v ≤ 9) :
    classOfVehicle w v = ((matchOf w v).map fun e => e.1.code).getD 0 := if_neg (by omega)

theorem grossMatches_iff (c : ClassEntry) (l : List Axle) : grossMatches c (grossOf l) (grossIncomplete l) = true ↔
    (c.grossLow = 0 ∧ c.grossHigh = 1000) ∨
      ((∀ d ∈ allWheels l, d.load.isSome = true) ∧ c.grossLow * 100 ≤ grossOf l ∧ grossOf l ≤ c.grossHigh * 100) := by
  have hcomplete : grossIncomplete l = false ↔ ∀ d ∈ allWheels l, d.load.isSome = true := by
    simp only [grossIncomplete, List.any_eq_false, Option.isNone_iff_eq_none, Option.isSome_iff_ne_none]
  simp only [grossMatches, Bool.or_eq_true, Bool.and_eq_true, decide_eq_true_eq, Bool.not_eq_true', hcomplete, and_assoc]

/-- Settles O44, by the axle count and the first match of the page. -/
theorem firstMatchingEntryGivesTheClass : Obligations.FirstMatchingEntryGivesTheClass := by
  unfold Obligations.FirstMatchingEntryGivesTheClass
  refine ⟨fun w i v h => ?_, fun w i v h => ?_, fun w i v c before behind h2 h9 hpage hbefore hc => ?_,
    fun w i v page h2 h9 hpage hnone => ?_, fun l c => ?_⟩
  · rw [classify_cls, classify_entry, classOfVehicle_short (by omega), matchOf_none (by omega)]
    exact ⟨rfl, rfl⟩
  · rw [classify_cls, classify_entry, matchOf_none (by omega)]
    exact ⟨if_pos h, rfl⟩
  · rw [classify_cls, classify_entry, classOfVehicle_short h9, matchOf_page h2 h9 hpage, firstMatch_at hbefore hc]
    exact ⟨rfl, rfl⟩
  · rw [classify_cls, classify_entry, classOfVehicle_short h9, matchOf_page h2 h9 hpage, firstMatch_none hnone]
    exact ⟨rfl, rfl⟩
  · rw [entryMatches, Bool.and_eq_true, grossMatches_iff, gapsMatch, List.all_eq_true]
    have hdm : ∀ n, inDm n = (2 * n + 100) / 200 := fun _ => rfl
    simp only [Bool.and_eq_true, decide_eq_true_eq, hdm]

/-! ### The conditions of R111 -/

/-- A test of R111 decides its condition and carries its reason. -/
def Decides (x : Prop × Reason) (y : Bool × Reason) : Prop := (y.1 = true ↔ x.1) ∧ y.2 = x.2

/-- The first condition that fails gives the reason. -/
theorem firstFailure_at {l : List (Prop × Reason)} {m : List (Bool × Reason)} (h : List.Forall₂ Decides l m)
    {before behind : List (Prop × Reason)} {c : Prop} {r : Reason} (hl : l = before ++ (c, r) :: behind)
    (hbefore : ∀ x ∈ before, x.1) (hc : ¬c) : firstFailure m = some r := by
  induction h generalizing before with
  | nil => simp at hl
  | @cons x y l m hxy _ ih =>
    obtain ⟨hiff, hreason⟩ := hxy
    cases before with
    | nil =>
      obtain ⟨rfl, rfl⟩ := List.cons.inj hl
      have hfail : y.1 = false := by simpa using mt hiff.1 hc
      rw [firstFailure, hfail, if_neg (by simp), hreason]
    | cons b before =>
      obtain ⟨rfl, rfl⟩ := List.cons.inj hl
      rw [firstFailure, if_pos (hiff.2 (hbefore x (by simp)))]
      exact ih rfl fun z hz => hbefore z (by simp [hz])

theorem firstFailure_none_iff {l : List (Prop × Reason)} {m : List (Bool × Reason)} (h : List.Forall₂ Decides l m) :
    firstFailure m = none ↔ ∀ x ∈ l, x.1 := by
  induction h with
  | nil => simp [firstFailure]
  | @cons x y l m hxy _ ih =>
    rw [firstFailure, List.forall_mem_cons, ← hxy.1, ← ih]
    by_cases hy : y.1 = true <;> simp [hy]

theorem all_axleHas (f : WheelData → Bool) (l : List Axle) :
    (l.all fun a => !axleHas f a) = true ↔ ∀ d ∈ allWheels l, f d = false := by
  simp only [List.all_eq_true, axleHas, Bool.not_eq_true', List.any_eq_false, Bool.not_eq_true, allWheels, List.mem_flatMap,
    forall_exists_index, and_imp]
  exact ⟨fun h d a ha hd => h a ha d hd, fun h a ha d hd => h d a ha hd⟩

/-- With a SCREEN record the tests decide the conditions one by one. -/
theorem conditions_decide {w : Working} {i : ScreenInput} {v : Vehicle} {r : ScreenRec} (h : i.record = some r) :
    List.Forall₂ Decides (screeningConditions w i v) (conditions i v (classOfVehicle w v) r) := by
  refine .cons ⟨by simp [h], rfl⟩ (.cons ⟨by simp, rfl⟩ (.cons ⟨Iff.rfl, rfl⟩ (.cons ⟨inRange_iff _ _ _, rfl⟩
    (.cons ⟨by simp [h, inRange_iff], rfl⟩ (.cons ⟨?_, rfl⟩ (.cons ⟨?_, rfl⟩ (.cons ⟨by simp, rfl⟩ (.cons ⟨by simp, rfl⟩
    (.cons ⟨all_axleHas _ _, rfl⟩ (.cons ⟨all_axleHas _ _, rfl⟩ (.cons ⟨all_axleHas _ _, rfl⟩ (.cons ⟨by simp, rfl⟩
    .nil))))))))))))
  · cases worstSource v.axles <;> simp
  · cases firstTemp v.axles <;> simp [h]

/-- The first reason for which a vehicle is not screened. -/
def failureOf (w : Working) (i : ScreenInput) (v : Vehicle) : Option Reason :=
  firstFailure (conditions i v (classOfVehicle w v) (i.record.getD .blank))

theorem failureOf_unlocked {w : Working} {i : ScreenInput} {v : Vehicle} (h : i.locked = false ∨ i.record = none) :
    failureOf w i v = some .notLocked := by
  rcases h with h | h <;> simp [failureOf, conditions, firstFailure, h]

theorem failureOf_at {w : Working} {i : ScreenInput} {v : Vehicle} {before behind : List (Prop × Reason)} {c : Prop}
    {r : Reason} (hl : screeningConditions w i v = before ++ (c, r) :: behind) (hbefore : ∀ x ∈ before, x.1) (hc : ¬c) :
    failureOf w i v = some r := by
  cases hrec : i.record with
  | some x => exact firstFailure_at (by rw [hrec]; exact conditions_decide hrec) hl hbefore hc
  | none =>
    cases before with
    | nil =>
      obtain ⟨hhead, -⟩ := List.cons.inj hl
      obtain ⟨-, rfl⟩ := Prod.mk.inj hhead
      exact failureOf_unlocked (.inr hrec)
    | cons b before =>
      obtain ⟨hhead, -⟩ := List.cons.inj hl
      have hb := hbefore b (by simp)
      rw [← hhead] at hb
      simp [hrec] at hb

theorem failureOf_none_iff {w : Working} {i : ScreenInput} {v : Vehicle} :
    failureOf w i v = none ↔ ∀ x ∈ screeningConditions w i v, x.1 := by
  cases hrec : i.record with
  | some x => rw [failureOf, hrec, Option.getD_some, firstFailure_none_iff (conditions_decide hrec)]
  | none =>
    rw [failureOf_unlocked (.inr hrec)]
    refine ⟨fun h => (by cases h), fun h => ?_⟩
    have hfirst := h _ (List.mem_cons_self ..)
    simp [hrec] at hfirst

/-! ### The outcome (R113 to R115) -/

/-- The limits that a vehicle is screened with. -/
def limitsOf (w : Working) (v : Vehicle) : Nat × Nat :=
  ((matchOf w v).map fun e => (e.1.axleLimit, e.1.grossLimit)).getD (0, 0)

/-- The vehicle exceeds a limit. -/
def exceedsLimits (w : Working) (v : Vehicle) : Bool :=
  !(exceedingAxles (limitsOf w v).1 v.axles).isEmpty || decide ((limitsOf w v).2 * 100 < grossOf v.axles)

theorem classify_failed {w : Working} {i : ScreenInput} {v : Vehicle} {r : Reason} (h : failureOf w i v = some r) :
    (classify w i v).screening = .notScreened r ∧ (classify w i v).exceeding = [] ∧ (classify w i v).grossExceeds = false := by
  have h' : firstFailure (conditions i v (classOfVehicle w v) (i.record.getD .blank)) = some r := h
  simp [classify, h']

theorem classify_passed {w : Working} {i : ScreenInput} {v : Vehicle} (h : failureOf w i v = none) :
    (classify w i v).screening = (if exceedsLimits w v then .overload else .clear) ∧
      (classify w i v).exceeding = (if exceedsLimits w v then exceedingAxles (limitsOf w v).1 v.axles else []) ∧
      (classify w i v).grossExceeds = (exceedsLimits w v && decide ((limitsOf w v).2 * 100 < grossOf v.axles)) := by
  have h' : firstFailure (conditions i v (classOfVehicle w v) (i.record.getD .blank)) = none := h
  simp only [classify, h']
  exact ⟨rfl, rfl, rfl⟩

theorem mem_exceedingAxles {limit : Nat} {l : List Axle} {k load : Nat} : (k, load) ∈ exceedingAxles limit l ↔
    ∃ a, 1 ≤ k ∧ l[k - 1]? = some a ∧ load = axleLoad a ∧ limit * 100 < axleLoad a := by
  simp only [exceedingAxles, List.mem_map, List.mem_filter, Prod.exists, List.mem_zipIdx_iff_le_and_getElem?_sub,
    decide_eq_true_eq, Prod.mk.injEq]
  constructor
  · rintro ⟨a, j, ⟨⟨h1, ha⟩, hlimit⟩, rfl, rfl⟩
    exact ⟨a, h1, ha, rfl, hlimit⟩
  · rintro ⟨a, h1, ha, rfl, hlimit⟩
    exact ⟨a, k, ⟨⟨h1, ha⟩, hlimit⟩, rfl, rfl⟩

theorem exceedingAxles_pairwise (limit : Nat) (l : List Axle) :
    (exceedingAxles limit l).Pairwise fun x y => x.1 < y.1 := by
  rw [exceedingAxles, List.pairwise_map]
  refine List.Pairwise.filter _ ?_
  have h : ((l.zipIdx 1).map Prod.snd).Pairwise (· < ·) := by
    rw [List.zipIdx_map_snd]
    exact List.pairwise_lt_range'
  exact (List.pairwise_map.1 h)

theorem exceedingAxles_ne_nil {limit : Nat} {l : List Axle} :
    exceedingAxles limit l ≠ [] ↔ ∃ a ∈ l, limit * 100 < axleLoad a := by
  constructor
  · intro h
    obtain ⟨⟨k, load⟩, hmem⟩ := List.exists_mem_of_ne_nil _ h
    obtain ⟨a, -, ha, -, hlimit⟩ := mem_exceedingAxles.1 hmem
    exact ⟨a, List.mem_of_getElem? ha, hlimit⟩
  · rintro ⟨a, ha, hlimit⟩
    obtain ⟨j, hj⟩ := List.getElem?_of_mem ha
    exact List.ne_nil_of_mem (mem_exceedingAxles.2 ⟨a, Nat.succ_pos j, hj, rfl, hlimit⟩)

theorem exceedsLimits_iff (w : Working) (v : Vehicle) : exceedsLimits w v = true ↔
    (∃ a ∈ v.axles, (limitsOf w v).1 * 100 < axleLoad a) ∨ (limitsOf w v).2 * 100 < grossOf v.axles := by
  rw [exceedsLimits, Bool.or_eq_true, decide_eq_true_iff, ← exceedingAxles_ne_nil]
  simp

theorem classify_overload_iff {w : Working} {i : ScreenInput} {v : Vehicle} :
    (classify w i v).screening = .overload ↔ failureOf w i v = none ∧ exceedsLimits w v = true := by
  cases h : failureOf w i v with
  | some r =>
    obtain ⟨hs, -⟩ := classify_failed h
    simp [hs]
  | none =>
    obtain ⟨hs, -⟩ := classify_passed h
    rw [hs]
    cases exceedsLimits w v <;> simp

/-- A class in 1..14 comes from a matching entry. -/
theorem matchOf_of_cls {w : Working} {v : Vehicle} (h1 : 1 ≤ classOfVehicle w v) (h14 : classOfVehicle w v ≤ 14) :
    ∃ c n, matchOf w v = some (c, n) := by
  have hshort : totalAxles v ≤ 9 := by
    by_contra h
    have hlong : classOfVehicle w v = 15 := if_pos (by omega)
    omega
  cases hm : matchOf w v with
  | none =>
    rw [classOfVehicle_short hshort, hm] at h1
    exact absurd h1 (by simp)
  | some e => exact ⟨e.1, e.2, rfl⟩

theorem axleLoad_eq (a : Axle) :
    axleLoad a = ((a.left.bind WheelData.load).getD 0) + ((a.right.bind WheelData.load).getD 0) := by
  cases hl : a.left <;> cases hr : a.right <;> simp [axleLoad, wheelsOf, hl, hr]

end Sys2Proof.Machine

namespace Sys2Proof.Machine

open Sys2Proof

/-! The overload screen and the notice of an OVERLOAD frame (O45). -/

theorem offerUrgent_immediate (f : TxFrame) (s : State) : (offerUrgent f s).1.link.immediate = s.link.immediate := by
  unfold offerUrgent
  (repeat' split)
  · rfl
  · rfl
  · show (returnToReady _ _).link.immediate = _
    rw [returnToReady_link]
    rfl
  · rfl
  · rfl

/-- The outcome that an entry is left with at its classing event. -/
theorem changeVehicle_mem {number : BitVec 16} {g : Vehicle → Vehicle} {s : State} {w : Vehicle}
    (hg : ∀ x, (g x).number = x.number) (hw : w ∈ (changeVehicle number g s).veh.entries) :
    (w.number = number → ∃ x, w = g x) ∧ (w.number ≠ number → w ∈ s.veh.entries) := by
  rw [changeVehicle_entries] at hw
  obtain ⟨x, hx, rfl⟩ := List.mem_map.1 hw
  by_cases hnum : x.number = number
  · rw [if_pos hnum]
    exact ⟨fun _ => ⟨x, rfl⟩, fun h => absurd ((hg x).trans hnum) h⟩
  · rw [if_neg hnum]
    exact ⟨fun h => absurd h hnum, fun _ => hx⟩

/-- An entry as its classing event leaves it. -/
def classed (c : Classed) (v : Vehicle) : Vehicle := { v with state := .ready, outcome := some c }

theorem classed_number (c : Classed) (v : Vehicle) : (classed c v).number = v.number := rfl

theorem classVehicle_quiet {v : Vehicle} {s : State} (h : (classify s.cal.working (screenInput s) v).screening ≠ .overload) :
    classVehicle v s = changeVehicle v.number (classed (classify s.cal.working (screenInput s) v)) s := if_neg h

/-- The OVERLOAD frame that a vehicle forms. -/
def overloadFrame (v : Vehicle) (s : State) : TxFrame :=
  mkFrame .overload broadcast (overloadPayload (ownLane s) v (classify s.cal.working (screenInput s) v))

theorem classVehicle_overload {v : Vehicle} {s : State}
    (h : (classify s.cal.working (screenInput s) v).screening = .overload) : classVehicle v s =
      changeVehicle v.number (classed { classify s.cal.working (screenInput s) v with
        notice := (offerOverload (overloadFrame v s) s).2 }) (offerOverload (overloadFrame v s) s).1 := if_pos h

theorem offerOverload_slot {f : TxFrame} {s : State} (h : s.link.immediate = none) :
    offerOverload f s = (withImmediate s (some f), .slot) := by simp [offerOverload, h]

theorem offerOverload_queue {f g : TxFrame} {s : State} (h : s.link.immediate = some g) :
    offerOverload f s = ((offerUrgent f s).1, if (offerUrgent f s).2 then .queued else .dropped) := by
  simp [offerOverload, h]

theorem classed_entries {v w : Vehicle} {c : Classed} {z : State}
    (hw : w ∈ (changeVehicle v.number (classed c) z).veh.entries) (hnum : w.number = v.number) :
    w.state = .ready ∧ w.outcome = some c := by
  obtain ⟨x, rfl⟩ := (changeVehicle_mem (classed_number _) hw).1 hnum
  exact ⟨rfl, rfl⟩

/-- The OVERLOAD outcome, condition by condition. -/
theorem overload_conditions {w : Working} {i : ScreenInput} {v : Vehicle}
    (h : (classify w i v).screening = .overload) :
    i.locked = true ∧ i.record.isSome = true ∧ i.calibrated = true ∧ v.uncalibrated = false ∧ i.screenOn = true ∧
    1 ≤ (classify w i v).cls ∧ (classify w i v).cls ≤ 14 ∧
    (∀ r, i.record = some r → r.speedLow ≤ recordSpeed v.firstSpeed ∧ recordSpeed v.firstSpeed ≤ r.speedHigh ∧
      ∃ x, firstTemp v.axles = some x ∧ r.tempLow ≤ x ∧ x ≤ r.tempHigh) ∧
    worstSource v.axles ≠ none ∧ worstSource v.axles ≠ some .default ∧
    (∀ a ∈ v.axles, a.kind ≠ .part ∧ a.unconfirmed = false) ∧
    (∀ d ∈ allWheels v.axles, d.clipped = false ∧ d.disagree = false ∧ d.notWeighed = false) ∧
    v.truncated = false ∧ v.continuation = false ∧
    ((classify w i v).exceeding ≠ [] ∨ (classify w i v).grossExceeds = true) := by
  obtain ⟨hnone, hover⟩ := classify_overload_iff.1 h
  have hall := failureOf_none_iff.1 hnone
  simp only [screeningConditions, List.forall_mem_cons] at hall
  obtain ⟨hlock, hcal, hscreen, hcls, hspeed, hsource, htemp, hpart, hconf, hclip, hdis, hweighed, hchain, -⟩ := hall
  obtain ⟨-, hexceeding, hgross⟩ := classify_passed hnone
  refine ⟨hlock.1, hlock.2, hcal.1, hcal.2, hscreen, hcls.1, hcls.2, fun r hr => ?_, hsource.1, hsource.2,
    fun a ha => ⟨hpart a ha, hconf a ha⟩, fun d hd => ⟨hclip d hd, hdis d hd, hweighed d hd⟩, hchain.1, hchain.2, ?_⟩
  · obtain ⟨r1, hr1, hlow, hhigh⟩ := hspeed
    obtain ⟨r2, x, hr2, hx, hband⟩ := htemp
    obtain rfl : r1 = r := Option.some.inj (hr1.symm.trans hr)
    obtain rfl : r2 = r1 := Option.some.inj (hr2.symm.trans hr)
    exact ⟨hlow, hhigh, x, hx, hband⟩
  · rw [hexceeding, hgross, if_pos hover, hover, Bool.true_and, decide_eq_true_iff, exceedingAxles_ne_nil]
    exact (exceedsLimits_iff w v).1 hover

/-- A vehicle that passes every condition, by the limits of its matching entry. -/
theorem screened_by_limits {w : Working} {i : ScreenInput} {v : Vehicle} (h : ∀ x ∈ screeningConditions w i v, x.1) :
    ∃ c n, matchOf w v = some (c, n) ∧
      ((classify w i v).screening = .overload ↔
        (∃ a ∈ v.axles, c.axleLimit * 100 < axleLoad a) ∨ c.grossLimit * 100 < grossOf v.axles) ∧
      ((classify w i v).screening ≠ .overload → (classify w i v).screening = .clear ∧ (classify w i v).exceeding = [] ∧
        (classify w i v).grossExceeds = false) ∧
      ((classify w i v).screening = .overload →
        ((classify w i v).grossExceeds = true ↔ c.grossLimit * 100 < grossOf v.axles) ∧
        (classify w i v).exceeding.Pairwise (fun x y => x.1 < y.1) ∧
        ∀ k load, (k, load) ∈ (classify w i v).exceeding ↔
          ∃ a, 1 ≤ k ∧ v.axles[k - 1]? = some a ∧ load = axleLoad a ∧ c.axleLimit * 100 < axleLoad a) := by
  have hnone := failureOf_none_iff.2 h
  simp only [screeningConditions, List.forall_mem_cons] at h
  obtain ⟨-, -, -, ⟨h1, h14⟩, -⟩ := h
  obtain ⟨c, n, hmatch⟩ := matchOf_of_cls h1 h14
  have hlimits : limitsOf w v = (c.axleLimit, c.grossLimit) := by rw [limitsOf, hmatch]; rfl
  have hiff := exceedsLimits_iff w v
  obtain ⟨hscreen, hexceeding, hgross⟩ := classify_passed hnone
  rw [hlimits] at hiff hexceeding hgross
  refine ⟨c, n, hmatch, ?_, fun hno => ?_, fun hyes => ?_⟩
  · rw [classify_overload_iff, ← hiff]
    exact and_iff_right hnone
  · have hover : exceedsLimits w v = false := by
      rw [← Bool.not_eq_true]
      exact fun h => hno (classify_overload_iff.2 ⟨hnone, h⟩)
    rw [hscreen, hexceeding, hgross, hover]
    exact ⟨rfl, rfl, rfl⟩
  · obtain ⟨-, hover⟩ := classify_overload_iff.1 hyes
    rw [hexceeding, hgross, if_pos hover, hover, Bool.true_and, decide_eq_true_iff]
    exact ⟨Iff.rfl, exceedingAxles_pairwise _ _, fun k load => mem_exceedingAxles⟩

/-- Settles O45: the conditions, the limits, and the place of the OVERLOAD frame. -/
theorem overloadNeedsEveryCondition : Obligations.OverloadNeedsEveryCondition := by
  unfold Obligations.OverloadNeedsEveryCondition
  refine ⟨fun w i v => overload_conditions, fun w i v before behind c reason hl hbefore hc =>
    classify_failed (failureOf_at hl hbefore hc), fun w i v => screened_by_limits, axleLoad_eq,
    fun w i v h => (classify_failed (failureOf_unlocked h)).1, fun w i v hlock hrec h => ?_,
    fun w i v hlock hrec hcal hv hoff => ?_, fun s v h => by rw [classVehicle_quiet h]; rfl, fun s v h himm => ?_,
    fun s v f g h himm hf => ?_⟩
  · refine (classify_failed (failureOf_at (before := [(i.locked = true ∧ i.record.isSome = true, .notLocked)]) rfl
      (by simp [hlock, hrec]) ?_)).1
    rintro ⟨hcal, hv⟩
    rcases h with h | h
    · exact absurd hcal (by simp [h])
    · exact absurd hv (by simp [h])
  · exact (classify_failed (failureOf_at (before := [(i.locked = true ∧ i.record.isSome = true, .notLocked),
      (i.calibrated = true ∧ v.uncalibrated = false, .notCalibrated)]) rfl (by simp [hlock, hrec, hcal, hv])
      (by simp [hoff]))).1
  · rw [classVehicle_overload h, offerOverload_slot himm]
    exact ⟨rfl, fun w hw hnum => classed_entries hw hnum, rfl⟩
  · obtain rfl : overloadFrame v s = f := hf.symm
    rw [classVehicle_overload h, offerOverload_queue himm]
    refine ⟨rfl, rfl, rfl, (offerUrgent_immediate _ s).trans himm,
      fun w hw hnum => (changeVehicle_mem (classed_number _) hw).2 hnum,
      fun w hw hnum => classed_entries hw hnum, fun hroom => ?_, fun hfull htwo hveh => ?_⟩
    · rw [offerUrgent_room hroom]
      exact ⟨rfl, rfl, rfl⟩
    · rw [offerUrgent_drops hfull (not_classTwoWaiting htwo) rfl (not_vehicleWaiting hveh)]
      exact ⟨rfl, txDrop_queue_payload s, rfl, rfl⟩

end Sys2Proof.Machine

namespace Sys2Proof.Machine

open Sys2Proof

/-! The beacon timer and the end of a silent self-test wait (O42, O43). -/

/-! ### A beacon with the reports that follow it (R57, R101, R118) -/

theorem offerBeacon_room {f : TxFrame} {s : State} (hno : ∀ x ∈ s.link.queue, x.kind = .beacon → x.sending = true)
    (h : s.link.queue.length < 16) : offerBeacon f s = s.withLink { s.link with queue := s.link.queue ++ [f] } := by
  have hany : s.link.queue.any beaconWaiting = false := by
    rw [List.any_eq_false]
    intro x hx
    simpa [beaconWaiting] using hno x hx
  rw [offerBeacon, if_neg (by simp [hany]), offerPlain_room h]

/-- The TEMPERATURE report is due at this beacon. -/
abbrev ReportDue (s : State) : Prop := s.setup.interval ≠ 0 ∧ s.setup.interval ≤ s.ctl.reportCount + 1

/-- The report count after a beacon. -/
def nextReportCount (s : State) : Nat :=
  if s.setup.interval = 0 then s.ctl.reportCount
  else if s.setup.interval ≤ s.ctl.reportCount + 1 then 0 else s.ctl.reportCount + 1

theorem scheduledReport_of_due {s : State} (hdue : ReportDue s) (h : s.link.queue.length < 16) :
    scheduledReport s = ((s.withCtl { s.ctl with reportCount := 0 }).withTemp { s.temp with
        least := s.temp.value, greatest := s.temp.value, goodReadings := 0 }).withLink { s.link with
      queue := s.link.queue ++ [temperatureFrame (s.withCtl { s.ctl with reportCount := 0 })] } := by
  rw [scheduledReport, if_neg hdue.1, if_pos hdue.2,
    offerTemperature_room (s := s.withCtl { s.ctl with reportCount := 0 }) h]
  rfl

theorem scheduledReport_not_due {s : State} (hdue : ¬ReportDue s) :
    scheduledReport s = s.withCtl { s.ctl with reportCount := nextReportCount s } := by
  unfold scheduledReport nextReportCount
  by_cases h0 : s.setup.interval = 0
  · rw [if_pos h0, if_pos h0]
    rfl
  · have hlater : ¬s.setup.interval ≤ s.ctl.reportCount + 1 := fun h => hdue ⟨h0, h⟩
    rw [if_neg h0, if_neg h0, if_neg hlater, if_neg hlater]

theorem nextReportCount_due {s : State} (hdue : ReportDue s) : nextReportCount s = 0 := by
  rw [nextReportCount, if_neg hdue.1, if_pos hdue.2]

theorem laneClearStep_idle {s : State} (h : s.veh.runCount = 0) : laneClearStep s = s := by simp [laneClearStep, h]

theorem laneClearStep_run {s : State} (hrun : 0 < s.veh.runCount) (h : s.link.queue.length < 16) :
    laneClearStep s = (s.withVeh { s.veh with runCount := s.veh.runCount - 1 }).withLink
      { s.link with queue := s.link.queue ++ [laneClearFrame s] } := by
  rw [laneClearStep, if_pos hrun, offerPlain_room h]
  rfl

/-- What a step of a lane-clear run adds, when a place is free. -/
theorem laneClearStep_spec {s : State} (h : s.link.queue.length < 16) :
    (laneClearStep s).link.queue.map TxFrame.kind =
        s.link.queue.map TxFrame.kind ++ (if 0 < s.veh.runCount then [.laneClear] else []) ∧
      (∃ l, (laneClearStep s).link.queue = s.link.queue ++ l) ∧
      (laneClearStep s).veh = { s.veh with runCount := s.veh.runCount - 1 } ∧ (laneClearStep s).ctl = s.ctl ∧
      (laneClearStep s).temp = s.temp ∧ (laneClearStep s).counters = s.counters ∧ (laneClearStep s).raised = s.raised := by
  rcases Nat.eq_zero_or_pos s.veh.runCount with hzero | hpos
  · rw [laneClearStep_idle hzero, if_neg (by omega)]
    refine ⟨by simp, ⟨[], by simp⟩, ?_, rfl, rfl, rfl, rfl⟩
    have hkept : s.veh.runCount - 1 = s.veh.runCount := by omega
    rw [hkept]
  · rw [laneClearStep_run hpos h, if_pos hpos]
    exact ⟨List.map_append, ⟨_, rfl⟩, rfl, rfl, rfl, rfl, rfl⟩

/-- What the scheduled report adds, when a place is free. -/
theorem scheduledReport_spec {s : State} (h : s.link.queue.length < 16) :
    (scheduledReport s).link.queue.map TxFrame.kind = s.link.queue.map TxFrame.kind ++
        (if s.setup.interval ≠ 0 ∧ s.setup.interval ≤ s.ctl.reportCount + 1 then [.temperature] else []) ∧
      (∃ l, (scheduledReport s).link.queue = s.link.queue ++ l ∧ l.length ≤ 1) ∧
      (scheduledReport s).ctl = { s.ctl with reportCount := nextReportCount s } ∧
      (ReportDue s → (scheduledReport s).temp = { s.temp with
        least := s.temp.value, greatest := s.temp.value, goodReadings := 0 }) ∧
      (¬ReportDue s → (scheduledReport s).temp = s.temp) ∧
      (scheduledReport s).veh = s.veh ∧ (scheduledReport s).counters = s.counters ∧
      (scheduledReport s).raised = s.raised := by
  by_cases hdue : ReportDue s
  · rw [scheduledReport_of_due hdue h, if_pos hdue, nextReportCount_due hdue]
    exact ⟨List.map_append, ⟨_, rfl, le_rfl⟩, rfl, fun _ => rfl, fun hno => absurd hdue hno, rfl, rfl, rfl⟩
  · rw [scheduledReport_not_due hdue, if_neg hdue]
    exact ⟨by simp, ⟨[], by simp⟩, rfl, fun hyes => absurd hyes hdue, fun _ => rfl, rfl, rfl, rfl⟩

/-- A beacon formed with three places free and none waiting. -/
theorem formBeacon_spec {s : State} (hno : ∀ x ∈ s.link.queue, x.kind = .beacon → x.sending = true)
    (h : s.link.queue.length ≤ 13) :
    (formBeacon s).link.queue.map TxFrame.kind = s.link.queue.map TxFrame.kind ++ [.beacon] ++
        (if s.setup.interval ≠ 0 ∧ s.setup.interval ≤ s.ctl.reportCount + 1 then [.temperature] else []) ++
        (if 0 < s.veh.runCount then [.laneClear] else []) ∧
      ((formBeacon s).link.queue[s.link.queue.length]?).map TxFrame.payload = some (beaconPayload s) ∧
      (formBeacon s).veh = { s.veh with runCount := s.veh.runCount - 1 } ∧
      (formBeacon s).ctl = { s.ctl with reportCount := nextReportCount s } ∧
      (ReportDue s → (formBeacon s).temp = { s.temp with
        least := s.temp.value, greatest := s.temp.value, goodReadings := 0 }) ∧
      (¬ReportDue s → (formBeacon s).temp = s.temp) ∧
      (formBeacon s).counters = s.counters ∧ (formBeacon s).raised = s.raised := by
  rw [formBeacon, offerBeacon_room hno (by omega)]
  generalize ha : s.withLink { s.link with queue := s.link.queue ++ [beaconFrame s] } = a
  have hqueue : a.link.queue = s.link.queue ++ [beaconFrame s] := by rw [← ha]; rfl
  have halen : a.link.queue.length < 16 := by
    rw [hqueue, List.length_append]
    exact Nat.lt_of_le_of_lt (Nat.add_le_add_right h 1) (by decide)
  obtain ⟨hkinds, ⟨l, hl, hlen⟩, hctl, htemp, htemp', hveh, hcounters, hraised⟩ := scheduledReport_spec halen
  have hblen : (scheduledReport a).link.queue.length < 16 := by
    rw [hl, hqueue, List.length_append, List.length_append]
    exact Nat.lt_of_le_of_lt (Nat.add_le_add (Nat.add_le_add_right h 1) hlen) (by decide)
  obtain ⟨hkinds', ⟨m, hm⟩, hveh', hctl', htemp'', hcounters', hraised'⟩ := laneClearStep_spec hblen
  have hdue : ReportDue a ↔ ReportDue s := by rw [← ha]; exact Iff.rfl
  refine ⟨?_, ?_, ?_, ?_, fun hyes => ?_, fun hyes => ?_, ?_, ?_⟩
  · rw [hkinds', hkinds, hqueue, hveh, ← ha, List.map_append]
    rfl
  · rw [hm, hl, hqueue]
    simp [beaconFrame, mkFrame]
  · rw [hveh', hveh, ← ha]; rfl
  · rw [hctl', hctl, ← ha]; rfl
  · rw [htemp'', htemp (hdue.2 hyes), ← ha]; rfl
  · rw [htemp'', htemp' (mt hdue.1 hyes), ← ha]; rfl
  · rw [hcounters', hcounters, ← ha]; rfl
  · rw [hraised', hraised, ← ha]; rfl

theorem exec_beaconTimerExpiry {s : State} {e : Tick} (he : s.ctl.beaconExpiry = some e) (hr : reached s.tick e = true) :
    exec .beaconTimerExpiry s = .next (formBeacon (s.withCtl { s.ctl with beaconExpiry := some (e + 8000) })) := by
  show execBeaconTimerExpiry s = _
  rw [execBeaconTimerExpiry, he]
  exact if_pos hr

/-- Settles O42, frame by frame. -/
theorem beaconTimerFormsBeaconsAndReports : Obligations.BeaconTimerFormsBeaconsAndReports := by
  unfold Obligations.BeaconTimerFormsBeaconsAndReports
  intro s e he hr hno hroom
  obtain ⟨hkinds, hpayload, hveh, hctl, htemp, -, hcounters, hraised⟩ :=
    formBeacon_spec (s := s.withCtl { s.ctl with beaconExpiry := some (e + 8000) }) hno hroom
  refine ⟨_, exec_beaconTimerExpiry he hr, congrArg Control.beaconExpiry hctl, hkinds, hpayload, hveh,
    congrArg Control.reportCount hctl, fun h0 hle => htemp ⟨h0, hle⟩, (congrArg Control.station hctl).trans rfl,
    hcounters, hraised, ?_⟩
  simp

/-! ### A silent end of SELFTEST (R12, R182, R183) -/

theorem silenceDetector_state (d : Detector) : (silenceDetector d).state = .fault := by
  unfold silenceDetector
  split <;> simp_all

theorem silenceDetector_good {d : Detector} (h : d.state ≠ .fault) : (silenceDetector d).good = 0 := by
  unfold silenceDetector
  split
  · next hf => exact absurd hf h
  all_goals rfl

theorem endEvent_settled {before s : State} (hs : s.ctl.station = .settling) (hd : s.det.all settled = true) :
    (endEvent before s).ctl.station = .run := by
  rw [endEvent_station, if_pos ⟨hs, hd⟩]

/-- The report and the beacon at the end of SELFTEST, on an empty queue and with no report due. -/
theorem endSelftest_spec {silent : Bool} {s : State} (hq : s.link.queue = []) (hdue : ¬ReportDue s)
    (hrun : s.veh.runCount = 0) :
    (endSelftest silent s).link.queue.map TxFrame.kind = [.start, .beacon] ∧
      (endSelftest silent s).temp = s.temp ∧ (endSelftest silent s).counters = s.counters ∧
      (endSelftest silent s).veh = s.veh := by
  have hroom : s.link.queue.length < 16 := by rw [hq]; decide
  unfold endSelftest
  generalize ha : s.withCtl { s.ctl with findings := ⟨silent, s.cal.failed⟩, waitExpiry := none } = a
  have hareas : a.link = s.link ∧ a.veh = s.veh ∧ a.temp = s.temp ∧ a.counters = s.counters ∧
      (ReportDue a ↔ ReportDue s) := by rw [← ha]; exact ⟨rfl, rfl, rfl, rfl, Iff.rfl⟩
  obtain ⟨hlink, hveh, htemp, hcounters, hrep⟩ := hareas
  dsimp only
  rw [offerPlain_room (by rw [hlink]; exact hroom)]
  generalize hb : a.withLink { a.link with queue := a.link.queue ++ [startFrame a] } = b
  have hbq : b.link.queue = [startFrame a] := by rw [← hb]; show a.link.queue ++ _ = _; rw [hlink, hq]; rfl
  have hbdue : ¬ReportDue b := by rw [← hb]; exact mt hrep.1 hdue
  have hbrun : b.veh.runCount = 0 := by rw [← hb]; show a.veh.runCount = 0; rw [hveh, hrun]
  have hwait : ∀ f ∈ b.link.queue, f.kind = .beacon → f.sending = true := by
    intro f hf hk
    rw [hbq, List.mem_singleton] at hf
    rw [hf] at hk
    exact nomatch hk
  obtain ⟨hkinds, -, hveh', -, -, htemp', hcounters', -⟩ :=
    formBeacon_spec hwait (by rw [hbq]; exact Nat.succ_le_succ (Nat.zero_le 12))
  refine ⟨?_, ?_, ?_, ?_⟩
  · show (formBeacon b).link.queue.map TxFrame.kind = _
    rw [hkinds, hbq, if_neg hbdue, if_neg (by omega)]
    rfl
  · show (formBeacon b).temp = _
    rw [htemp' hbdue, ← hb]; exact htemp
  · show (formBeacon b).counters = _
    rw [hcounters', ← hb]; exact hcounters
  · show (formBeacon b).veh = _
    have hkept : b.veh.runCount - 1 = b.veh.runCount := by omega
    rw [hveh', hkept, ← hb]; exact hveh

theorem exec_selftestWaitExpiry {s : State} {e : Tick} (hs : s.ctl.station = .selftest) (he : s.ctl.waitExpiry = some e)
    (hr : reached s.tick e = true) :
    exec .selftestWaitExpiry s = .next (endEvent s (endSelftest true (s.withDet (silenceAll s.det)))) := by
  show execSelftestWaitExpiry s = _
  rw [execSelftestWaitExpiry, if_pos (by rw [hs, he]; simpa [isDue] using hr)]

/-- The station control after the end of SELFTEST (R182). -/
theorem endSelftest_ctl (silent : Bool) (s : State) :
    (endSelftest silent s).ctl.station = .settling ∧
      (endSelftest silent s).ctl.beaconExpiry = some (s.tick + 8000) :=
  ⟨rfl, rfl⟩

/-- Settles O43: with every detector silenced, SETTLING ends at the event that begins it. -/
theorem silentSelftestEndsInRun : Obligations.SilentSelftestEndsInRun := by
  unfold Obligations.SilentSelftestEndsInRun
  intro s e hs he hr hq hi hrep hrun
  have hdue : ¬ReportDue (s.withDet (silenceAll s.det)) := by
    rintro ⟨h0, hle⟩
    have hle' : s.setup.interval ≤ s.ctl.reportCount + 1 := hle
    have h0' : s.setup.interval ≠ 0 := h0
    omega
  obtain ⟨hkinds, htemp, hcounters, hveh⟩ :=
    endSelftest_spec (silent := true) (s := s.withDet (silenceAll s.det)) hq hdue hrun
  obtain ⟨hsettling, hbeacon⟩ := endSelftest_ctl true (s.withDet (silenceAll s.det))
  have hsettled : (endSelftest true (s.withDet (silenceAll s.det))).det.all settled = true := by
    simp [Quad.all, silenceAll, settled, silenceDetector_state]
  refine ⟨_, exec_selftestWaitExpiry hs he hr, endEvent_settled hsettling hsettled, by simp,
    by simp, by simpa using hbeacon, ?_, ?_, ?_, ?_, ?_, ?_, by rw [endEvent_link, hkinds], ?_, ?_, ?_, ?_, ?_,
    ?_⟩
  · simp [silenceAll, silenceDetector_state]
  · simp [silenceAll, silenceDetector_state]
  · simp [silenceAll, silenceDetector_state]
  · simp [silenceAll, silenceDetector_state]
  · intro h
    simp [silenceAll, silenceDetector_good h]
  · intro h
    simp [silenceAll, silenceDetector_good h]
  · simp [endSelftest]
  · simpa using htemp
  · simp [endSelftest]
  · rw [endEvent_counters, hcounters]; rfl
  · simp [endSelftest]
  · rw [endEvent_entries, hveh]; rfl

end Sys2Proof.Machine

namespace Sys2Proof.Machine

open Sys2Proof

/-! The presence line and the starts of lane-clear runs (O41). -/

/-! ### The presence state at the end of an event -/

theorem rest_presence {a b : Assembler} (h : a.rest = b.rest) : a.presence = b.presence := (rest_parts h).2.2.2.1

theorem leaveClosing_presence (number : BitVec 16) (s : State) :
    (leaveClosing number s).veh.presence = s.veh.presence := by
  unfold leaveClosing
  split
  · split_ifs
    · rfl
    · rw [rest_presence (offerReady_rest _), rest_presence (classVehicle_rest _ _)]
      rfl
    · rfl
  · rfl

theorem confirmVacancy_presence (s : State) : (confirmVacancy s).veh.presence = s.veh.presence := by
  unfold confirmVacancy
  split
  · exact leaveClosing_presence _ _
  · rfl

theorem endEvent_presence (before s : State) : (endEvent before s).veh.presence = s.veh.presence :=
  (endEvent_assembler before s).2.2.2.2

/-! ### What a change of the line and the two expiries do -/

theorem exec_presenceLineChange {level : LineLevel} {s : State} (h : level ≠ s.pins.line) :
    exec (.presenceLineChange level) s =
      .next (endEvent s (presenceChange level (s.withPins { s.pins with line := level }))) := if_neg h

theorem exec_debounceExpiry {s : State} {e : Tick} (he : s.veh.presence = some (.vacating e))
    (hr : reached s.tick e = true) :
    exec .debounceExpiry s = .next (endEvent s (confirmVacancy (withPresence s .vacant))) := by
  show execDebounceExpiry s = _
  rw [execDebounceExpiry, he]
  exact if_pos hr

theorem exec_stuckExpiry {s : State} {e : Tick} (he : s.veh.presence = some (.occupied e))
    (hr : reached s.tick e = true) : exec .stuckExpiry s = .next (endEvent s (withPresence s .stuck)) := by
  show execStuckExpiry s = _
  rw [execStuckExpiry, he]
  exact if_pos hr

theorem presenceChange_presence (level : LineLevel) (s : State) :
    (presenceChange level s).veh.presence = s.veh.presence.map (movedPresence level s.tick) := by
  unfold presenceChange
  split
  · next p hp =>
    rw [hp]
    dsimp only
    split <;> rfl
  · next hp => rw [hp]; rfl

theorem presenceChange_entries (level : LineLevel) (s : State) :
    (presenceChange level s).veh.entries = s.veh.entries := by
  unfold presenceChange
  split
  · dsimp only
    split <;> rfl
  · rfl

theorem presenceChange_counters (level : LineLevel) (s : State) : (presenceChange level s).counters = s.counters := by
  unfold presenceChange
  split
  · dsimp only
    split <;> rfl
  · rfl

/-- What a change of the line leaves, whatever the presence state (R93). -/
theorem lineChanged_spec (level : LineLevel) (s : State) :
    let t := endEvent s (presenceChange level (s.withPins { s.pins with line := level }))
    t.pins = { s.pins with line := level } ∧ t.veh.presence = s.veh.presence.map (movedPresence level s.tick) ∧
      t.veh.entries = s.veh.entries ∧ t.tick = s.tick ∧ t.det = s.det ∧ t.former = s.former ∧ t.link = s.link ∧
      t.counters = s.counters := by
  refine ⟨by simp, ?_, ?_, by simp, by simp, by simp, by simp, ?_⟩
  · rw [endEvent_presence, presenceChange_presence]; rfl
  · rw [endEvent_entries, presenceChange_entries]; rfl
  · rw [endEvent_counters, presenceChange_counters]; rfl

theorem laneClear_of_occupied {s : State} {e : Tick} (h : s.veh.presence = some (.occupied e)) : laneClear s = false := by
  simp [laneClear, h]

theorem laneClear_of_vacating {s : State} {e : Tick} (h : s.veh.presence = some (.vacating e)) : laneClear s = false := by
  simp [laneClear, h]

/-- The presence line becomes OCCUPIED where the lane was VACANT: the run under way ends and none starts. -/
theorem occupied_ends_run {s : State} (h : s.veh.presence = some .vacant) :
    (endEvent s (presenceChange .occupied (s.withPins { s.pins with line := .occupied }))).veh.runCount = 0 := by
  have hocc := (lineChanged_spec .occupied s).2.1
  rw [h] at hocc
  rw [endEvent_keep s _ fun hrun => absurd hrun.2.1 (by simp [laneClear_of_occupied hocc])]
  simp [presenceChange, h, endRun]

/-- An event of a lane not clear that leaves it clear in RUN has set the run count. -/
theorem runCount_of_laneClear {s x : State} (hbefore : laneClear s = false) (hctl : x.ctl = s.ctl) (hsetup : x.setup = s.setup)
    (hrun : s.ctl.station = .run) (hclear : laneClear (endEvent s x) = true) :
    (endEvent s x).veh.runCount = s.setup.clearCount := by
  have hstation : (endEvent s x).ctl.station = .run := by
    rw [endEvent_station, hctl, hrun]
    rfl
  rw [endEvent_run s x hstation hclear (.inr hbefore)]
  simp [hsetup]

/-! ### The run count over every command of one event (R101) -/

/-- A run that starts sets the run count, and where none starts the count does not rise. -/
def RunRule (s t : State) : Prop :=
  (RunStarts s t → t.veh.runCount = t.setup.clearCount) ∧ (¬RunStarts s t → t.veh.runCount ≤ s.veh.runCount)

theorem RunRule.endEvent {s x : State} (h : x.veh.runCount ≤ s.veh.runCount) : RunRule s (endEvent s x) :=
  ⟨fun ⟨hstation, hclear, hbefore⟩ => endEvent_run s x hstation hclear hbefore,
    fun hno => by rw [endEvent_keep s x hno]; exact h⟩

/-- No run starts where station state and assembler are kept. -/
theorem RunRule.of_same {s t : State} (hctl : t.ctl = s.ctl) (hveh : t.veh = s.veh) : RunRule s t := by
  refine ⟨fun ⟨hstation, hclear, hbefore⟩ => ?_, fun _ => by rw [hveh]⟩
  rw [hctl] at hstation
  rw [laneClear_congr hveh] at hclear
  rcases hbefore with hb | hb
  · exact absurd hstation hb
  · rw [hclear] at hb
    exact nomatch hb

theorem RunRule.congr {s a t : State} (h : RunRule a t) (hctl : a.ctl = s.ctl) (hveh : a.veh = s.veh) : RunRule s t := by
  simpa [RunRule, RunStarts, hctl, hveh, laneClear_congr hveh] using h

theorem takeRezero_runRule (f : RxFrame) (s : State) : RunRule s (takeRezero f s) := by
  have hrefuse : RunRule s (refuseField f s) := RunRule.of_same (by simp [refuseField]) (by simp [refuseField])
  unfold takeRezero
  split
  · split
    · exact hrefuse
    · exact RunRule.endEvent (by simp)
  · exact hrefuse

theorem Acts.runRule {c : Instr} {s t : State} (h : Acts s c t) (hc : endsWithLaneTest c = true) : RunRule s t := by
  cases h with
  | selftestWaitExpiry => exact RunRule.endEvent (endSelftest_run _ _)
  | weighingComplete => exact RunRule.endEvent (completeWeighing_run _ _)
  | loneDeclaration => exact RunRule.endEvent (by rw [takeLone_run]; exact Nat.zero_le _)
  | presenceLineChange => exact RunRule.endEvent (presenceChange_run _ _)
  | rezero => exact (takeRezero_runRule _ _).congr rfl rfl
  | malformedTake | malformedCede | malformedRefuse => exact RunRule.of_same rfl rfl
  | offeredExpires | cededExpires | ownerWaitExpiry | confirmationWaitExpiry | gapTimerExpiry | debounceExpiry
  | stuckExpiry | halfAxleReceived | mergeTakeReceived | mergeCedeReceived | mergeRefuseReceived =>
    exact RunRule.endEvent (Nat.le_of_eq (by simp [freeMerge, taken, withPresence]))
  | _ => exact nomatch hc

/-- Settles O41: the table of R93 line by line, and the rule of R101 over the ways in which a command acts. -/
theorem presenceFollowsTheLine : Obligations.PresenceFollowsTheLine := by
  unfold Obligations.PresenceFollowsTheLine
  refine ⟨fun s hl => ?_, fun s hl => ?_, fun s e hp hr => ?_, fun c s t hc h => ?_, fun s e hp hr => ?_⟩
  · obtain ⟨hpins, hpres, hframe⟩ := lineChanged_spec .occupied s
    exact ⟨_, exec_presenceLineChange (by simp [hl]), hpins,
      fun h => ⟨by rw [hpres, h]; rfl, occupied_ends_run h⟩, fun e h => by rw [hpres, h]; rfl,
      fun h => by rw [hpres, h]; rfl, hframe⟩
  · obtain ⟨hpins, hpres, hframe⟩ := lineChanged_spec .vacant s
    exact ⟨_, exec_presenceLineChange (by simp [hl]), hpins, fun e h => by rw [hpres, h]; rfl,
      fun h => by rw [hpres, h]; rfl, fun h => by rw [hpres, h]; rfl, hframe⟩
  · refine ⟨_, exec_debounceExpiry hp hr, ?_, fun hnone => ?_, fun _ => ?_, fun hrun hclear => ?_, ?_, ?_⟩
    · rw [endEvent_presence, confirmVacancy_presence]; rfl
    · have hno : openEntry (withPresence s .vacant) = none := hnone
      rw [endEvent_entries, confirmVacancy, hno]; rfl
    · refine openEntry_none_iff.2 (NoneOpen.of_entries (s := confirmVacancy (withPresence s .vacant)) ?_ (endEvent_entries _ _))
      unfold confirmVacancy
      split
      · exact noneOpen_closeEntry _ _ _
      · next hno => exact openEntry_none_iff.1 hno
    · exact runCount_of_laneClear (laneClear_of_vacating hp) (by simp) (by simp) hrun hclear
    · simp
    · simp [SameMeasuring]
  · rcases exec_next_acts h with rfl | hacts
    · exact RunRule.of_same rfl rfl
    · exact hacts.runRule hc
  · refine ⟨_, exec_stuckExpiry hp hr, by rw [endEvent_presence]; rfl, by rw [endEvent_entries]; rfl,
      fun hrun hclear => runCount_of_laneClear (laneClear_of_occupied hp) rfl rfl hrun hclear, ?_⟩
    simp [SameMeasuring, withPresence]

end Sys2Proof.Machine

namespace Sys2Proof.Machine

open Sys2Proof

/-! The bytes of frames: the CRC register, numbers and bit fields in bytes (O60). -/

/-! ### The CRC register run over its own value (R134) -/

/-- A bit equal to the one the register shifts out leaves the shifted register. -/
theorem crcBit_shift (r : BitVec 16) (k : Nat) : crcBit (r <<< k) (r.getMsbD k) = r <<< (k + 1) := by
  have hmsb : (r <<< k).msb = r.getMsbD k := by simp [BitVec.msb_shiftLeft]
  rw [crcBit, hmsb, BitVec.shiftLeft_add]
  simp

/-- Eight bits of the register itself, the most significant first, only shift it. -/
theorem crcByte_shift (r : BitVec 16) {k : Nat} {x : Byte}
    (hx : ∀ i < 8, x.getLsbD i = r.getMsbD (k + (7 - i))) : crcByte (r <<< k) x = r <<< (k + 8) := by
  have hstep : ∀ j < 8, crcBit (r <<< (k + j)) (x.getLsbD (7 - j)) = r <<< (k + (j + 1)) := by
    intro j hj
    rw [hx _ (by omega), show 7 - (7 - j) = j by omega, crcBit_shift]
    rfl
  have h := hstep 0 (by decide)
  rw [Nat.add_zero] at h
  simp only [crcByte, List.foldl]
  rw [h, hstep 1 (by decide), hstep 2 (by decide), hstep 3 (by decide), hstep 4 (by decide), hstep 5 (by decide),
    hstep 6 (by decide), hstep 7 (by decide)]

theorem getLsbD_byte (r : BitVec 16) (s : Nat) {i : Nat} (hi : i < 8) :
    (BitVec.ofNat 8 (r.toNat / 2 ^ s)).getLsbD i = r.getLsbD (s + i) := by
  rw [BitVec.getLsbD_ofNat, decide_eq_true hi, Bool.true_and, Nat.testBit_div_two_pow, Nat.add_comm]
  rfl

theorem bytesOf_two (v : Nat) : bytesOf 2 v = [BitVec.ofNat 8 (v / 2 ^ 8), BitVec.ofNat 8 (v / 2 ^ 0)] := by
  simp [bytesOf]

/-- The register run over its own two bytes, the high byte first, ends at 0. -/
theorem crcRun_self (r : BitVec 16) : crcRun r (bytesOf 2 r.toNat) = 0 := by
  have hbit : ∀ s j, j < 16 → s + j ≤ 15 → r.getLsbD (s + j) = r.getMsbD (15 - s - j) := by
    intro s j hj hs
    rw [BitVec.getMsbD_eq_getLsbD]
    simp [show 15 - s - j < 16 by omega, show 15 - (15 - s - j) = s + j by omega]
  have hhigh : crcByte (r <<< 0) (BitVec.ofNat 8 (r.toNat / 2 ^ 8)) = r <<< 8 :=
    crcByte_shift r fun i hi => by
      rw [getLsbD_byte r 8 hi, hbit 8 i (by omega) (by omega)]
      congr 1
      omega
  have hlow : crcByte (r <<< 8) (BitVec.ofNat 8 (r.toNat / 2 ^ 0)) = r <<< 16 :=
    crcByte_shift r fun i hi => by
      rw [getLsbD_byte r 0 hi, hbit 0 i (by omega) (by omega)]
      congr 1
      omega
  rw [BitVec.shiftLeft_zero] at hhigh
  rw [bytesOf_two, crcRun, List.foldl_cons, hhigh, List.foldl_cons, hlow]
  simp

theorem crcRun_append (r : BitVec 16) (l m : List Byte) : crcRun r (l ++ m) = crcRun (crcRun r l) m :=
  List.foldl_append

theorem crcRun_wireBytes (kind source dest : Byte) (payload : List Byte) :
    crcRun 0xFFFF#16 (wireBytes kind source dest payload) = 0 := by
  rw [wireBytes, crcRun_append]
  exact crcRun_self _

/-! ### Flags and bit sums -/

theorem bit_eq (b : Bool) (k : Nat) : bit b k = b.toNat * 2 ^ k := by cases b <;> simp [bit]

/-- The number whose bits below `n` are a function's values. -/
def bitSum (f : Nat → Bool) (n : Nat) : Nat := ((List.range n).map fun k => bit (f k) k).sum

theorem bitSum_succ (f : Nat → Bool) (n : Nat) : bitSum f (n + 1) = bitSum f n + (f n).toNat * 2 ^ n := by
  simp [bitSum, List.range_succ, bit_eq]

theorem bitSum_lt (f : Nat → Bool) (n : Nat) : bitSum f n < 2 ^ n := by
  induction n with
  | zero => simp [bitSum]
  | succ n ih =>
    have hle := Bool.toNat_le (f n)
    rw [bitSum_succ, pow_succ]
    nlinarith

theorem bitSum_bit (f : Nat → Bool) {k n : Nat} (hk : k < n) : bitSum f n / 2 ^ k % 2 = (f k).toNat := by
  induction n with
  | zero => exact absurd hk (Nat.not_lt_zero k)
  | succ n ih =>
    rw [bitSum_succ]
    rcases Nat.lt_succ_iff_lt_or_eq.1 hk with h | rfl
    · obtain ⟨d, rfl⟩ := Nat.exists_eq_add_of_lt h
      rw [show (f (k + d + 1)).toNat * 2 ^ (k + d + 1) = 2 ^ k * (2 * ((f (k + d + 1)).toNat * 2 ^ d)) by ring,
        Nat.add_mul_div_left _ _ (by positivity), Nat.add_mul_mod_self_left, ih h]
    · rw [Nat.add_mul_div_right _ _ (by positivity), Nat.div_eq_of_lt (bitSum_lt f k), Nat.zero_add]
      exact Nat.mod_eq_of_lt (Nat.lt_succ_of_le (Bool.toNat_le _))

/-! ### Numbers in bytes -/

theorem bytesOf_length (n v : Nat) : (bytesOf n v).length = n := by
  induction n with
  | zero => rfl
  | succ n ih => rw [bytesOf, List.length_cons, ih]

theorem foldl_bytesOf (n v a : Nat) :
    (bytesOf n v).foldl (fun a b => 256 * a + b.toNat) a = a * 256 ^ n + v % 256 ^ n := by
  induction n generalizing a with
  | zero => simp [bytesOf, Nat.mod_one]
  | succ n ih =>
    have hmod : v % 256 ^ (n + 1) = v % 256 ^ n + 256 ^ n * (v / 256 ^ n % 256) := Nat.mod_mul
    rw [bytesOf, List.foldl_cons, ih, BitVec.toNat_ofNat, hmod]
    ring

/-- A number is read back from the bytes it was written in. -/
theorem numAt_bytesOf {p l : List Byte} {i n v : Nat} (h : p.drop i = bytesOf n v ++ l) (hv : v < 256 ^ n) :
    numAt p i n = v := by
  rw [numAt, h, List.take_left' (bytesOf_length n v), foldl_bytesOf, Nat.zero_mul, Nat.zero_add, Nat.mod_eq_of_lt hv]

theorem numAt_byte {p l : List Byte} {i : Nat} {b : Byte} (h : p.drop i = b :: l) : numAt p i 1 = b.toNat := by
  simp [numAt, h]

/-! ### The self-test findings (R175) -/

/-- The findings as one number of 16 bits. -/
def findingsWord (f : Findings) : Nat :=
  bitSum (fun k => if k = 15 then f.silent else decide (k < 13) && f.failed.contains k) 16

theorem findingsBytes_eq (f : Findings) : findingsBytes f = bytesOf 2 (findingsWord f) := by
  have h13 : bitSum (fun k => if k = 15 then f.silent else decide (k < 13) && f.failed.contains k) 13 =
      ((List.range 13).map fun k => bit (f.failed.contains k) k).sum := by
    refine congrArg List.sum (List.map_congr_left fun k hk => ?_)
    have hlt := List.mem_range.1 hk
    have hne : k ≠ 15 := by omega
    simp [hlt, hne]
  have hsum : findingsWord f = ((List.range 13).map fun k => bit (f.failed.contains k) k).sum + bit f.silent 15 := by
    rw [findingsWord, bitSum_succ, bitSum_succ, bitSum_succ, h13, bit_eq]
    simp
  rw [findingsBytes, hsum]

theorem findingsWord_lt (f : Findings) : findingsWord f < 65536 := bitSum_lt _ 16

theorem findingsLayout_of {f : Findings} {p l : List Byte} {i : Nat} (hp : p.drop i = findingsBytes f ++ l) :
    FindingsLayout f p i := by
  have h : numAt p i 2 = findingsWord f := numAt_bytesOf (findingsBytes_eq f ▸ hp) (findingsWord_lt f)
  refine ⟨fun k hk => ?_, ?_⟩
  · have hne : k ≠ 15 := by omega
    rw [h, findingsWord, bitSum_bit _ (by omega)]
    simp [hk, hne]
  · rw [h, findingsWord, bitSum_bit _ (by decide)]
    simp

/-! ### Signed numbers -/

theorem intAt_intBytes {p l : List Byte} {i : Nat} {v : Int} (h : p.drop i = intBytes v ++ l) (hlow : -32768 ≤ v)
    (hhigh : v ≤ 32767) : intAt p i = v := by
  rw [intAt, numAt_bytesOf h (BitVec.isLt _), BitVec.ofNat_toNat, BitVec.setWidth_eq, BitVec.toInt_ofInt]
  exact Int.bmod_eq_of_le (by norm_num; exact hlow) (by norm_num; omega)

end Sys2Proof.Machine

namespace Sys2Proof.Machine

open Sys2Proof

/-! The payloads of class-2 frames hold every field of their layout (O60). -/

theorem ownLane_le (s : State) : ownLane s ≤ 8 := by
  have := s.straps.laneStrap.isLt
  unfold ownLane
  omega

theorem stateCode_le (x : StationState) : stateCode x ≤ 2 := by cases x <;> simp [stateCode]

theorem resetCode_le (x : ResetKind) : resetCode x ≤ 3 := by cases x <;> decide

theorem sourceCode_le (x : Source) : sourceCode x ≤ 4 := by cases x <;> decide

theorem probeCode_le (x : ProbeState) : probeCode x ≤ 4 := by cases x <;> decide

theorem weighingCode_le (x : Option ProbeIx) : weighingCode x ≤ 3 := by rcases x with - | - | - <;> decide

theorem priority_le (n : Notice) : priority n ≤ 12 := by cases n <;> decide

/-! ### BEACON -/

/-- The four notices a beacon carries, as its bytes. -/
theorem carriedBytes (s : State) : ∃ c0 c1 c2 c3 : Byte,
    (((carriedNotices s).map fun n => BitVec.ofNat 8 (priority n)) ++ List.replicate 4 0).take 4 = [c0, c1, c2, c3] ∧
      ∀ k, k < 4 → ([c0, c1, c2, c3].getD k 0).toNat = ((carriedNotices s)[k]?.map priority).getD 0 := by
  generalize hl : (((carriedNotices s).map fun n => BitVec.ofNat 8 (priority n)) ++ List.replicate 4 0).take 4 = l
  have hlen : l.length = 4 := by rw [← hl]; simp
  obtain ⟨c0, c1, c2, c3, rfl⟩ := List.length_eq_four.1 hlen
  refine ⟨c0, c1, c2, c3, rfl, fun k hk => ?_⟩
  rw [← hl, List.getD_eq_getElem?_getD, List.getElem?_take_of_lt hk]
  rcases Nat.lt_or_ge k (carriedNotices s).length with h | h
  · have hle := priority_le ((carriedNotices s)[k])
    simp [List.getElem?_append, h]
    omega
  · have hrep : k - (carriedNotices s).length < 4 := by omega
    rw [List.getElem?_append_right (by simpa using h), List.length_map, List.getElem?_replicate, if_pos hrep,
      List.getElem?_eq_none h]
    rfl

theorem fieldOf_ofNat (n lo width : Nat) : fieldOf (BitVec.ofNat 8 n) lo width = n % 256 / 2 ^ lo % 2 ^ width := by
  simp [fieldOf]

/-- The status byte of a beacon. -/
def beaconStatus (s : State) : Nat :=
  neighbourBits s + bit s.cal.calibrated 2 + bit s.cal.lock 3 + bit s.screenOn 4 + 32 * stateCode s.ctl.station

/-- The group byte of a beacon. -/
def beaconGroup (s : State) : Nat :=
  s.setup.group % 4 + 4 * resetCode s.ctl.resetCause + 16 * sourceCode s.temp.source

theorem beaconStatus_fields (s : State) :
    fieldOf (BitVec.ofNat 8 (beaconStatus s)) 0 1 = s.straps.leftNeighbour.toNat ∧
      fieldOf (BitVec.ofNat 8 (beaconStatus s)) 1 1 = s.straps.rightNeighbour.toNat ∧
      fieldOf (BitVec.ofNat 8 (beaconStatus s)) 2 1 = s.cal.calibrated.toNat ∧
      fieldOf (BitVec.ofNat 8 (beaconStatus s)) 3 1 = s.cal.lock.toNat ∧
      fieldOf (BitVec.ofNat 8 (beaconStatus s)) 4 1 = s.screenOn.toNat ∧
      fieldOf (BitVec.ofNat 8 (beaconStatus s)) 5 2 = stateCode s.ctl.station := by
  have hl := Bool.toNat_le s.straps.leftNeighbour
  have hr := Bool.toNat_le s.straps.rightNeighbour
  have hc := Bool.toNat_le s.cal.calibrated
  have hk := Bool.toNat_le s.cal.lock
  have ho := Bool.toNat_le s.screenOn
  have hs := stateCode_le s.ctl.station
  simp only [fieldOf_ofNat, beaconStatus, neighbourBits, bit_eq]
  omega

theorem beaconGroup_fields {s : State} (hg : s.setup.group ≤ 3) :
    fieldOf (BitVec.ofNat 8 (beaconGroup s)) 0 2 = s.setup.group ∧
      fieldOf (BitVec.ofNat 8 (beaconGroup s)) 2 2 = resetCode s.ctl.resetCause ∧
      fieldOf (BitVec.ofNat 8 (beaconGroup s)) 4 3 = sourceCode s.temp.source := by
  have hr := resetCode_le s.ctl.resetCause
  have hs := sourceCode_le s.temp.source
  simp only [fieldOf_ofNat, beaconGroup]
  omega

theorem toNat_ofNat_byte {v : Nat} (h : v < 256) : (BitVec.ofNat 8 v).toNat = v := by
  simp only [BitVec.toNat_ofNat]
  omega

theorem vehiclesSent_lt {s : State} (h : CountersFit s) : s.counters.vehiclesSent < 65536 :=
  Nat.lt_succ_of_le (h.1 _ (by simp [Counters.values]))

theorem tempBounds {x : Int} (h : tempInRange x = true) : -400 ≤ x ∧ x ≤ 800 := by
  simp only [tempInRange, Bool.and_eq_true, decide_eq_true_eq] at h
  exact h

theorem headLayout_of {s : State} {p l : List Byte} (h : p = classTwoHead s ++ l) : HeadLayout s p := by
  have hlane := ownLane_le s
  subst h
  exact ⟨rfl, (numAt_byte rfl).trans (toNat_ofNat_byte (by omega))⟩

theorem beaconLayout {s : State} (h : CountersFit s) (hg : s.setup.group ≤ 3) : BeaconLayout s (beaconPayload s) := by
  obtain ⟨c0, c1, c2, c3, hbytes, hcodes⟩ := carriedBytes s
  obtain ⟨h0, h1, h2, h3, h4, h5⟩ := beaconStatus_fields s
  obtain ⟨g0, g1, g2⟩ := beaconGroup_fields hg
  rw [beaconPayload, hbytes]
  refine ⟨rfl, headLayout_of rfl, h0, h1, h2, h3, h4, h5, g0, g1, g2, findingsLayout_of rfl, fun k hk => ?_, ?_⟩
  · rw [← hcodes k hk]
    rcases k with - | - | - | - | k
    · exact numAt_byte rfl
    · exact numAt_byte rfl
    · exact numAt_byte rfl
    · exact numAt_byte rfl
    · omega
  · exact numAt_bytesOf (l := []) rfl (vehiclesSent_lt h)

theorem sourceOf_sourceCode (x : Source) : sourceOf (sourceCode x) = some x := by cases x <;> rfl

/-- A beacon with the timestamp of its start is read back by a receiver (R170, R175). -/
theorem stampBeacon_reads {s : State} {t : Tick} (hg : s.setup.group ≤ 3) (ht : tempInRange s.temp.value = true) :
    let p := stampBeacon (beaconPayload s) t
    beaconMalformed p = false ∧ byteAt p 1 = BitVec.ofNat 8 (ownLane s) ∧ fieldOf (byteAt p 3) 0 2 = s.setup.group ∧
      intAt p 8 = s.temp.value ∧ beaconSource p = s.temp.source ∧ BitVec.ofNat 32 (numAt p 4 4) = t := by
  obtain ⟨c0, c1, c2, c3, hbytes, -⟩ := carriedBytes s
  obtain ⟨-, -, -, -, -, hstate⟩ := beaconStatus_fields s
  obtain ⟨hgroup, -, hsource⟩ := beaconGroup_fields hg
  obtain ⟨hlow, hhigh⟩ := tempBounds ht
  have hs := stateCode_le s.ctl.station
  have hc := sourceCode_le s.temp.source
  rw [beaconPayload, hbytes]
  refine ⟨?_, rfl, hgroup, intAt_intBytes rfl (by omega) (by omega), ?_, ?_⟩
  · rw [beaconMalformed, Bool.or_eq_false_iff, Bool.or_eq_false_iff]
    refine ⟨⟨rfl, decide_eq_false ?_⟩, decide_eq_false ?_⟩
    · intro h
      have hcode := hstate.symm.trans h
      omega
    · intro h
      have hcode := h.trans (le_of_eq hsource)
      omega
  · refine Eq.trans (congrArg (fun n => (sourceOf n).getD .default) hsource) ?_
    rw [sourceOf_sourceCode]
    rfl
  · rw [numAt_bytesOf (n := 4) (v := t.toNat) rfl t.isLt]
    simp

theorem newPeer_reads {s : State} {t u : Tick} (dest : Byte) (hg : s.setup.group ≤ 3)
    (ht : tempInRange s.temp.value = true) :
    newPeer ⟨0x20, ownNumber s, dest, stampBeacon (beaconPayload s) t, u⟩ =
      { station := ownNumber s, lane := BitVec.ofNat 8 (ownLane s), group := s.setup.group, temp := s.temp.value,
        source := s.temp.source, last := u, offset := t - u, previous := none, stable := 0, state := .heard,
        lossExpiry := u + 28000 } := by
  obtain ⟨-, hlane, hgroup, htemp, hsource, hstamp⟩ := stampBeacon_reads (t := t) hg ht
  simp only [newPeer, measuredOffset, hlane, hgroup, htemp, hsource, hstamp]
  rfl

/-! ### START, TEMPERATURE and LANE_CLEAR -/

theorem startLayout {s : State} (h : CountersFit s) : StartLayout s (startFrame s).payload := by
  have hl := Bool.toNat_le s.straps.leftNeighbour
  have hr := Bool.toNat_le s.straps.rightNeighbour
  have hc := Bool.toNat_le s.straps.calEnable
  have hcode := resetCode_le s.ctl.resetCause
  have hflags : ∀ lo width, fieldOf (byteAt (startFrame s).payload 2) lo width =
      (s.straps.leftNeighbour.toNat * 2 ^ 0 + s.straps.rightNeighbour.toNat * 2 ^ 1 +
        s.straps.calEnable.toNat * 2 ^ 2) % 256 / 2 ^ lo % 2 ^ width := by
    intro lo width
    rw [← bit_eq, ← bit_eq, ← bit_eq, ← fieldOf_ofNat]
    rfl
  refine ⟨rfl, headLayout_of rfl, ?_, ?_, ?_, (numAt_byte rfl).trans (toNat_ofNat_byte (by omega)),
    numAt_bytesOf (l := findingsBytes s.ctl.findings) rfl (Nat.lt_succ_of_le h.2), findingsLayout_of (l := []) rfl⟩
  · rw [hflags]; omega
  · rw [hflags]; omega
  · rw [hflags]; omega

theorem filtered_getD {p : Probe} (h : ∀ f ∈ filtered p, tempInRange f = true) :
    -32768 ≤ (filtered p).getD (-32768) ∧ (filtered p).getD (-32768) ≤ 32767 := by
  cases hf : filtered p with
  | none => simp
  | some f =>
    obtain ⟨hlow, hhigh⟩ := tempBounds (h f hf)
    simp only [Option.getD_some]
    omega

theorem temperatureLayout {s : State} (hv : tempInRange s.temp.value = true) (hl : tempInRange s.temp.least = true)
    (hg : tempInRange s.temp.greatest = true) (h0 : ∀ f ∈ filtered s.temp.probes.p0, tempInRange f = true)
    (h1 : ∀ f ∈ filtered s.temp.probes.p1, tempInRange f = true) (hn : s.temp.goodReadings ≤ 65535) :
    TemperatureLayout s (temperatureFrame s).payload := by
  have hc0 := probeCode_le s.temp.probes.p0.state
  have hc1 := probeCode_le s.temp.probes.p1.state
  have hw := weighingCode_le s.setup.weighing
  have hs := sourceCode_le s.temp.source
  obtain ⟨hvlow, hvhigh⟩ := tempBounds hv
  obtain ⟨hllow, hlhigh⟩ := tempBounds hl
  obtain ⟨hglow, hghigh⟩ := tempBounds hg
  have hstates : ∀ lo width, fieldOf (byteAt (temperatureFrame s).payload 2) lo width =
      (probeCode s.temp.probes.p0.state + 8 * probeCode s.temp.probes.p1.state + 64 * weighingCode s.setup.weighing) % 256 /
        2 ^ lo % 2 ^ width := by
    intro lo width
    rw [← fieldOf_ofNat]
    rfl
  refine ⟨rfl, headLayout_of rfl, ?_, ?_, ?_, intAt_intBytes rfl (filtered_getD h0).1 (filtered_getD h0).2,
    intAt_intBytes rfl (filtered_getD h1).1 (filtered_getD h1).2, intAt_intBytes rfl (by omega) (by omega),
    (numAt_byte rfl).trans (toNat_ofNat_byte (by omega)), intAt_intBytes rfl (by omega) (by omega),
    intAt_intBytes rfl (by omega) (by omega), numAt_bytesOf (l := []) rfl (Nat.lt_succ_of_le hn)⟩
  · rw [hstates]; omega
  · rw [hstates]; omega
  · rw [hstates]; omega

theorem laneClearLayout {s : State} (h : CountersFit s) (hlen : s.veh.entries.length ≤ 8) (hpos : 0 < s.veh.runCount)
    (hrun : s.veh.runCount ≤ s.setup.clearCount) (hclear : s.setup.clearCount ≤ 255) :
    LaneClearLayout s (laneClearFrame s).payload := by
  have hready : readyCount s ≤ 8 := (List.length_filter_le _ _).trans hlen
  have hsome := Bool.toNat_le s.veh.lastOpened.isSome
  have hflags : ∀ lo width, fieldOf (byteAt (laneClearFrame s).payload 5) lo width =
      (readyCount s % 16 + s.veh.lastOpened.isSome.toNat * 2 ^ 7) % 256 / 2 ^ lo % 2 ^ width := by
    intro lo width
    rw [← bit_eq, ← fieldOf_ofNat]
    rfl
  have hlast : (s.veh.lastOpened.getD 0).toNat = (s.veh.lastOpened.map BitVec.toNat).getD 0 := by
    cases s.veh.lastOpened <;> rfl
  refine ⟨rfl, headLayout_of rfl, numAt_bytesOf (n := 1) rfl (by omega), ?_, ?_, ?_,
    numAt_bytesOf (l := []) rfl (vehiclesSent_lt h)⟩
  · rw [← hlast]
    exact numAt_bytesOf rfl (BitVec.isLt _)
  · refine (hflags 0 4).trans (Eq.trans ?_ (rfl : readyCount s = _))
    omega
  · rw [hflags]; omega

end Sys2Proof.Machine

namespace Sys2Proof.Machine

open Sys2Proof

/-! The OVERLOAD, HALF_AXLE and VEHICLE payloads hold every field of their layout (O60). -/

/-! ### OVERLOAD (R174) -/

theorem entryCode_le {o : Option Nat} (h : ∀ k ∈ o, k ≤ 11) : o.getD 15 ≤ 15 := by
  cases o with
  | none => exact le_rfl
  | some k => exact (h k rfl).trans (by decide)

theorem classByte_fields {c : Classed} (hcls : c.cls ≤ 15) (hentry : ∀ k ∈ c.entry, k ≤ 11) :
    fieldOf (BitVec.ofNat 8 (c.cls % 16 + 16 * c.entry.getD 15)) 0 4 = c.cls ∧
      fieldOf (BitVec.ofNat 8 (c.cls % 16 + 16 * c.entry.getD 15)) 4 4 = c.entry.getD 15 := by
  have hle := entryCode_le hentry
  simp only [fieldOf_ofNat]
  omega

/-- The four bytes of each exceeding axle. -/
def exceedingBytes (l : List (Nat × Nat)) : List Byte := l.flatMap fun e => bytesOf 1 e.1 ++ bytesOf 3 e.2

theorem exceedingBytes_length (l : List (Nat × Nat)) : (exceedingBytes l).length = 4 * l.length := by
  induction l with
  | nil => rfl
  | cons e l ih =>
    show (bytesOf 1 e.1 ++ bytesOf 3 e.2 ++ exceedingBytes l).length = _
    rw [List.length_append, List.length_append, bytesOf_length, bytesOf_length, ih, List.length_cons]
    omega

theorem exceedingBytes_drop {l : List (Nat × Nat)} {k : Nat} {e : Nat × Nat} (h : l[k]? = some e) :
    (exceedingBytes l).drop (4 * k) = bytesOf 1 e.1 ++ (bytesOf 3 e.2 ++ exceedingBytes (l.drop (k + 1))) := by
  induction l generalizing k with
  | nil => exact nomatch h
  | cons x l ih =>
    cases k with
    | zero =>
      obtain rfl : x = e := by simpa using h
      rfl
    | succ k => exact ih (by simpa using h)

theorem overloadLayout {lane : Nat} {v : Vehicle} {c : Classed} (hlane : lane ≤ 255) (hcls : c.cls ≤ 15)
    (hentry : ∀ k ∈ c.entry, k ≤ 11) (hspeed : c.speed ≤ 2500) (hgross : c.gross < 16777216)
    (hcount : c.exceeding.length ≤ 9) (hex : ∀ e ∈ c.exceeding, e.1 ≤ 255 ∧ e.2 < 16777216) :
    OverloadLayout lane v c (overloadPayload lane v c) := by
  obtain ⟨hc0, hc1⟩ := classByte_fields hcls hentry
  have hflag := Bool.toNat_le c.grossExceeds
  have hcounts : ∀ lo width, fieldOf (byteAt (overloadPayload lane v c) 13) lo width =
      (c.exceeding.length % 16 + c.grossExceeds.toNat * 2 ^ 7) % 256 / 2 ^ lo % 2 ^ width := by
    intro lo width
    rw [← bit_eq, ← fieldOf_ofNat]
    rfl
  have hdrop : (overloadPayload lane v c).drop 14 = exceedingBytes c.exceeding := rfl
  refine ⟨(numAt_byte rfl).trans (toNat_ofNat_byte (by omega)), numAt_bytesOf rfl (BitVec.isLt _), fun a ha => ?_, hc0, hc1,
    numAt_bytesOf rfl (by omega), numAt_bytesOf rfl hgross, ?_, ?_, ?_, fun k n load hk => ?_⟩
  · have hhead : v.axles.head? = some a := ha
    rw [numAt_bytesOf (n := 4) (v := ((v.axles.head?.map Axle.time).getD 0).toNat) rfl (BitVec.isLt _), hhead]
    simp
  · rw [hcounts]; omega
  · rw [hcounts]; omega
  · rw [← List.take_append_drop 14 (overloadPayload lane v c), List.length_append, hdrop, exceedingBytes_length]
    rfl
  · obtain ⟨hn, hload⟩ := hex _ (List.mem_of_getElem? hk)
    have hat := exceedingBytes_drop hk
    constructor
    · refine numAt_bytesOf (n := 1) (l := bytesOf 3 load ++ exceedingBytes (c.exceeding.drop (k + 1))) ?_ (Nat.lt_succ_of_le hn)
      rw [← List.drop_drop, hdrop, hat]
    · refine numAt_bytesOf (n := 3) (l := exceedingBytes (c.exceeding.drop (k + 1))) ?_ hload
      rw [show 15 + 4 * k = 14 + (4 * k + 1) by omega, ← List.drop_drop, hdrop, ← List.drop_drop, hat]
      rfl

/-! ### HALF_AXLE (R171) -/

/-- A wheel as a HALF_AXLE can carry it: at most one of its three states, a load of two bytes unless it is NOT_WEIGHED, and a
temperature in range with its source, or neither. -/
def HalfForm (d : WheelData) : Prop :=
  ∃ (n : Nat) (x : Int) (src : Source) (u : Bool), n ≤ 65535 ∧ tempInRange x = true ∧
    (d = ⟨some n, false, false, false, u, some x, some src⟩ ∨ d = ⟨some n, true, false, false, u, some x, some src⟩ ∨
      d = ⟨some n, false, true, false, u, some x, some src⟩ ∨ d = ⟨none, false, false, true, u, some x, some src⟩ ∨
      d = ⟨none, false, false, true, u, none, none⟩)

theorem wheelState_le (d : WheelData) : wheelState d ≤ 3 := by
  unfold wheelState
  split_ifs <;> decide

theorem sourceCodeOpt_le (x : Option Source) : sourceCodeOpt x ≤ 4 ∨ sourceCodeOpt x = 7 := by
  cases x with
  | none => exact .inr rfl
  | some x => exact .inl (sourceCode_le x)

/-- The wheel byte of a HALF_AXLE. -/
theorem wheelByte_fields (d : WheelData) :
    let b := BitVec.ofNat 8 (wheelState d + bit d.uncalibrated 2 + 16 * sourceCodeOpt d.source)
    fieldOf b 0 2 = wheelState d ∧ fieldOf b 4 3 = sourceCodeOpt d.source ∧ fieldOf b 2 1 = d.uncalibrated.toNat := by
  have hstate := wheelState_le d
  have hsource := sourceCodeOpt_le d.source
  have hflag := Bool.toNat_le d.uncalibrated
  simp only [fieldOf_ofNat, bit_eq]
  omega

/-- A receiver whose fields are those of a wheel has that wheel. -/
theorem halfWheel_of_fields {p : List Byte} {d : WheelData} (hd : HalfForm d)
    (hstate : fieldOf (byteAt p 8) 0 2 = wheelState d) (hsource : fieldOf (byteAt p 8) 4 3 = sourceCodeOpt d.source)
    (hflag : (byteAt p 8).getLsbD 2 = d.uncalibrated) (hload : numAt p 9 2 = if d.notWeighed then 0 else d.load.getD 0)
    (htemp : intAt p 11 = d.temp.getD absentTemp) : halfWheel p = d := by
  obtain ⟨n, x, src, u, -, hx, hform⟩ := hd
  have hne : x ≠ absentTemp := by
    rintro rfl
    exact absurd hx (by decide)
  simp only [halfWheel, hstate, hsource, hflag, hload, htemp]
  rcases hform with rfl | rfl | rfl | rfl | rfl
  · simp [wheelState, sourceCodeOpt, sourceOf_sourceCode, hne]
  · simp [wheelState, sourceCodeOpt, sourceOf_sourceCode, hne]
  · simp [wheelState, sourceCodeOpt, sourceOf_sourceCode, hne]
  · simp [wheelState, sourceCodeOpt, sourceOf_sourceCode, hne]
  · simp [wheelState, sourceCodeOpt, sourceOf]

theorem HalfForm.load_lt {d : WheelData} (hd : HalfForm d) : (if d.notWeighed then 0 else d.load.getD 0) < 256 ^ 2 := by
  obtain ⟨n, x, src, u, hn, -, hform⟩ := hd
  have hlt : n < 256 ^ 2 := Nat.lt_succ_of_le hn
  rcases hform with rfl | rfl | rfl | rfl | rfl
  · exact hlt
  · exact hlt
  · exact hlt
  · exact Nat.two_pow_pos 16
  · exact Nat.two_pow_pos 16

theorem HalfForm.temp_bounds {d : WheelData} (hd : HalfForm d) :
    -32768 ≤ d.temp.getD absentTemp ∧ d.temp.getD absentTemp ≤ 32767 := by
  obtain ⟨n, x, src, u, -, hx, hform⟩ := hd
  obtain ⟨hlow, hhigh⟩ := tempBounds hx
  have hbounds : -32768 ≤ x ∧ x ≤ 32767 := ⟨by omega, by omega⟩
  rcases hform with rfl | rfl | rfl | rfl | rfl
  · exact hbounds
  · exact hbounds
  · exact hbounds
  · exact hbounds
  · exact ⟨le_rfl, Int.le_of_lt (by simp [absentTemp])⟩

/-- A HALF_AXLE of a wheel of path L is well formed and gives the wheel back (R71, R171). -/
theorem halfPayload_reads {ref : Byte} {w : OwnWheel} (hlow : 1389 ≤ w.speed) (hhigh : w.speed ≤ 69444)
    (hd : HalfForm w.data) :
    halfMalformed (halfPayload ref w) = false ∧ halfWheel (halfPayload ref w) = w.data ∧
      byteAt (halfPayload ref w) 0 = ref ∧ byteAt (halfPayload ref w) 1 = 0 ∧
      BitVec.ofNat 32 (numAt (halfPayload ref w) 2 4) = w.time ∧ numAt (halfPayload ref w) 6 2 = recordSpeed w.speed := by
  obtain ⟨hstate, hsource, hflag⟩ := wheelByte_fields w.data
  obtain ⟨hslow, hshigh⟩ := recordSpeed_bounds hlow hhigh
  have hspeed : numAt (halfPayload ref w) 6 2 = recordSpeed w.speed := numAt_bytesOf rfl (by omega)
  have hcodes := sourceCodeOpt_le w.data.source
  have hbit : (byteAt (halfPayload ref w) 8).getLsbD 2 = w.data.uncalibrated := by
    have h : ((byteAt (halfPayload ref w) 8).getLsbD 2).toNat = w.data.uncalibrated.toNat :=
      (fieldOf_one _ 2).symm.trans hflag
    simpa only [Bool.ofNat_toNat] using congrArg Bool.ofNat h
  refine ⟨?_, ?_, rfl, rfl, ?_, hspeed⟩
  · have hcode : fieldOf (byteAt (halfPayload ref w) 8) 4 3 = sourceCodeOpt w.data.source := hsource
    have hlen : (halfPayload ref w).length = 13 := rfl
    have hpath : byteAt (halfPayload ref w) 1 = 0 := rfl
    have hfive : sourceCodeOpt w.data.source ≠ 5 := by omega
    have hsix : sourceCodeOpt w.data.source ≠ 6 := by omega
    simp [halfMalformed, hcode, hlen, hpath, hspeed, hslow, hshigh, hfive, hsix]
  · exact halfWheel_of_fields hd hstate hsource hbit (numAt_bytesOf rfl hd.load_lt)
      (intAt_intBytes (l := []) rfl hd.temp_bounds.1 hd.temp_bounds.2)
  · rw [numAt_bytesOf (n := 4) (v := w.time.toNat) rfl w.time.isLt]
    simp

/-! ### VEHICLE (R172, R173) -/

theorem causeCode_le (o : Option CloseCause) : causeCode o ≤ 4 := by rcases o with - | - | - | - | - | - <;> decide

theorem reasonCode_le (r : Reason) : reasonCode r ≤ 13 := by cases r <;> decide

theorem outcomeCode_le (c : Classed) : outcomeCode c ≤ 4 := by
  unfold outcomeCode
  split
  · decide
  · decide
  · split <;> decide

theorem outcomeReason_le (c : Classed) : outcomeReason c ≤ 13 := by
  unfold outcomeReason
  split
  · exact reasonCode_le _
  all_goals decide

theorem loadLayout_loadBytes {d : Option WheelData} (h : ∀ w ∈ d, ∀ n ∈ w.load, n ≤ 65535) :
    LoadLayout d (loadBytes d) := by
  refine ⟨fun w n hd hw hn => ?_, fun hall => ?_⟩
  · subst hd
    have hle := h w rfl n hn
    have hbytes : loadBytes (some w) = bytesOf 2 n := by simp [loadBytes, hw, hn]
    rw [hbytes]
    exact ⟨rfl, numAt_bytesOf (l := []) (by simp) (Nat.lt_succ_of_le hle)⟩
  · cases d with
    | none => rfl
    | some w => simp [loadBytes, hall w rfl]

theorem wheelCode_le (d : Option WheelData) : (d.map wheelState).getD 0 ≤ 3 := by
  cases d with
  | none => exact Nat.zero_le 3
  | some d => exact wheelState_le d

theorem axleForm_le (a : Axle) : axleForm a ≤ 6 := by
  unfold axleForm
  split
  · decide
  · split <;> decide
  all_goals split_ifs <;> decide

/-- An axle record holds its axle (R173). -/
theorem axleLayout_record {a : Axle} {exceeds : Prop} {e : Bool} (he : e = true ↔ exceeds)
    (hl : ∀ w ∈ a.left, ∀ n ∈ w.load, n ≤ 65535) (hr : ∀ w ∈ a.right, ∀ n ∈ w.load, n ≤ 65535) :
    AxleLayout a exceeds (axleRecord a e) := by
  have hform := axleForm_le a
  have hleft := wheelCode_le a.left
  have hright := wheelCode_le a.right
  have hflag := Bool.toNat_le e
  refine ⟨_, _, loadBytes a.left, loadBytes a.right, rfl, ?_⟩
  have hfields : ∀ lo width, fieldOf (BitVec.ofNat 8 (axleForm a + 8 * (a.left.map wheelState).getD 0 +
      32 * (a.right.map wheelState).getD 0 + bit e 7)) lo width = (axleForm a + 8 * (a.left.map wheelState).getD 0 +
      32 * (a.right.map wheelState).getD 0 + e.toNat * 2 ^ 7) % 256 / 2 ^ lo % 2 ^ width := by
    intro lo width
    rw [fieldOf_ofNat, bit_eq]
  have hcode : (axleForm a + 8 * (a.left.map wheelState).getD 0 + 32 * (a.right.map wheelState).getD 0 +
      e.toNat * 2 ^ 7) % 256 / 2 ^ 0 % 2 ^ 3 = axleForm a := by omega
  simp only [hfields, hcode]
  refine ⟨fun hk => ?_, fun hk => ?_, fun hk href => ?_, fun r hk href => ?_, by omega, by omega, ?_,
    loadLayout_loadBytes hl, loadLayout_loadBytes hr⟩
  · simp [axleForm, hk]
  · have hno : ¬(axleForm a = 3 ∨ axleForm a = 4) := by
      simp only [axleForm, hk]
      split_ifs <;> decide
    rw [if_neg hno]
    simp [axleForm, hk]
  · cases hside : a.left.isSome <;> simp [axleForm, hk, href, hside]
  · cases hside : a.left.isSome <;> simp [axleForm, hk, href, hside]
  · rw [← he]
    cases e
    · simp only [Bool.toNat_false, Bool.false_eq_true, iff_false]
      omega
    · simp only [Bool.toNat_true, iff_true]
      omega

/-- The number in bytes 6 to 8 of a VEHICLE frame. -/
def vehicleWord (v : Vehicle) (c : Classed) : Nat :=
  c.speed % 4096 + 4096 * (vehicleTempField c.firstTemp).toNat + bit v.uncalibrated 23

theorem vehicleWord_lt (v : Vehicle) (c : Classed) : vehicleWord v c < 256 ^ 3 := by
  have hfield := (vehicleTempField c.firstTemp).isLt
  have hflag := Bool.toNat_le v.uncalibrated
  rw [vehicleWord, bit_eq]
  omega

theorem vehicleWord_fields {v : Vehicle} {c : Classed} (hspeed : c.speed ≤ 2500) :
    vehicleWord v c % 4096 = c.speed ∧ vehicleWord v c / 4096 % 2048 = (vehicleTempField c.firstTemp).toNat ∧
      vehicleWord v c / 8388608 = v.uncalibrated.toNat := by
  have hfield := (vehicleTempField c.firstTemp).isLt
  have hflag := Bool.toNat_le v.uncalibrated
  rw [vehicleWord, bit_eq]
  omega

theorem vehicleTempField_some {t : Int} (h : tempInRange t = true) : ((vehicleTempField (some t)).toNat : Int) = t + 400 := by
  obtain ⟨hlow, hhigh⟩ := tempBounds h
  rw [vehicleTempField, if_pos h, BitVec.toNat_ofNat]
  omega

/-- The record of each axle of a vehicle, its place from 1 tested against the exceeding list. -/
def axleRecords (v : Vehicle) (c : Classed) : List (List Byte) :=
  (v.axles.zipIdx 1).map fun a => axleRecord a.1 (c.exceeding.any fun e => decide (e.1 = a.2))

theorem axleRecords_length (v : Vehicle) (c : Classed) : (axleRecords v c).length = v.axles.length := by
  simp [axleRecords]

theorem axleRecords_at {v : Vehicle} {c : Classed} {k : Nat} {a : Axle} {l : List Byte} (ha : v.axles[k]? = some a)
    (hl : (axleRecords v c)[k]? = some l) : l = axleRecord a (c.exceeding.any fun e => decide (e.1 = k + 1)) := by
  rw [axleRecords, List.getElem?_map, List.getElem?_zipIdx, ha] at hl
  simpa [Nat.add_comm 1] using hl.symm

/-- The VEHICLE payload in its three parts. -/
theorem vehiclePayload_eq {v : Vehicle} {c : Classed} (h : v.outcome = some c) :
    vehiclePayload v = vehicleFixed v c ++ ((axleRecords v c).flatten ++
      (spacings v.axles).map fun m => BitVec.ofNat 8 (min 255 ((2 * m + 100) / 200))) := by
  rw [vehiclePayload, h, List.append_assoc, List.flatMap_def]
  rfl

theorem countByte_fields {v : Vehicle} (h : v.axles.length ≤ 12) :
    let b := BitVec.ofNat 8 (v.axles.length % 16 + 16 * causeCode v.cause + bit v.truncated 7)
    fieldOf b 0 4 = v.axles.length ∧ fieldOf b 4 3 = causeCode v.cause ∧ fieldOf b 7 1 = v.truncated.toNat := by
  have hcause := causeCode_le v.cause
  have hflag := Bool.toNat_le v.truncated
  simp only [fieldOf_ofNat, bit_eq]
  omega

theorem outcomeByte_fields (c : Classed) :
    let b := BitVec.ofNat 8 (outcomeCode c + 8 * outcomeReason c + bit c.grossExceeds 7)
    fieldOf b 0 3 = outcomeCode c ∧ fieldOf b 3 4 = outcomeReason c ∧ fieldOf b 7 1 = c.grossExceeds.toNat := by
  have hcode := outcomeCode_le c
  have hreason := outcomeReason_le c
  have hflag := Bool.toNat_le c.grossExceeds
  simp only [fieldOf_ofNat, bit_eq]
  omega

theorem worstByte_fields {v : Vehicle} {c : Classed} (h : v.lead ≤ 255) :
    let b := BitVec.ofNat 8 (sourceCodeOpt c.worst + 8 * chainIndex v.lead)
    fieldOf b 0 3 = sourceCodeOpt c.worst ∧ fieldOf b 3 5 = chainIndex v.lead := by
  have hsource := sourceCodeOpt_le c.worst
  have hchain : chainIndex v.lead ≤ 31 := by
    unfold chainIndex
    split_ifs <;> omega
  simp only [fieldOf_ofNat]
  omega

theorem mem_allWheels_left {l : List Axle} {a : Axle} {w : WheelData} (ha : a ∈ l) (hw : w ∈ a.left) : w ∈ allWheels l :=
  List.mem_flatMap.2 ⟨a, ha, List.mem_append_left _ (Option.mem_toList.2 hw)⟩

theorem mem_allWheels_right {l : List Axle} {a : Axle} {w : WheelData} (ha : a ∈ l) (hw : w ∈ a.right) : w ∈ allWheels l :=
  List.mem_flatMap.2 ⟨a, ha, List.mem_append_right _ (Option.mem_toList.2 hw)⟩

theorem vehicleLayout {v : Vehicle} {c : Classed} (hout : v.outcome = some c) (hlen : v.axles.length ≤ 12)
    (hlead : v.lead ≤ 255) (hcls : c.cls ≤ 15) (hentry : ∀ k ∈ c.entry, k ≤ 11) (hspeed : c.speed ≤ 2500)
    (htemp : ∀ t ∈ c.firstTemp, tempInRange t = true) (hload : ∀ d ∈ allWheels v.axles, ∀ n ∈ d.load, n ≤ 65535) :
    VehicleLayout v c (vehiclePayload v) := by
  obtain ⟨n0, n1, n2⟩ := countByte_fields hlen
  obtain ⟨c0, c1⟩ := classByte_fields hcls hentry
  obtain ⟨o0, o1, o2⟩ := outcomeByte_fields c
  obtain ⟨w0, w1⟩ := worstByte_fields (c := c) hlead
  obtain ⟨s0, s1, s2⟩ := vehicleWord_fields (v := v) hspeed
  rw [vehiclePayload_eq hout]
  generalize htail : (axleRecords v c).flatten ++
    ((spacings v.axles).map fun m => BitVec.ofNat 8 (min 255 ((2 * m + 100) / 200))) = tail
  have hword : numAt (vehicleFixed v c ++ tail) 6 3 = vehicleWord v c := numAt_bytesOf rfl (vehicleWord_lt v c)
  rw [← hword] at s0 s1 s2
  have hcode : fieldOf (byteAt (vehicleFixed v c ++ tail) 4) 0 3 = outcomeCode c := o0
  have hreason : fieldOf (byteAt (vehicleFixed v c ++ tail) 4) 3 4 = outcomeReason c := o1
  refine ⟨numAt_bytesOf rfl (BitVec.isLt _), n0, n1, n2, c0, c1, fun h => ?_, fun r h => ?_, fun h => ?_, o2, w0, w1, s0,
    fun t ht => ?_, fun hnone => ?_, s2, axleRecords v c, axleRecords_length v c, htail.symm, fun k a l ha hl => ?_⟩
  · rw [hcode, hreason]
    simp [outcomeCode, outcomeReason, h]
  · rw [hcode, hreason]
    simp [outcomeCode, outcomeReason, h]
  · rw [hcode, hreason]
    refine ⟨by simp [outcomeReason, h], fun hn => ?_, fun hn => ?_, fun hn => ?_⟩
    · simp [outcomeCode, h, hn]
    · simp [outcomeCode, h, hn]
    · simp [outcomeCode, h, hn]
  · rw [s1, ht]
    exact vehicleTempField_some (htemp t ht)
  · rw [s1, hnone]
    rfl
  · rw [axleRecords_at ha hl]
    have hmem := List.mem_of_getElem? ha
    refine axleLayout_record ?_ (fun w hw => hload w (mem_allWheels_left hmem hw))
      fun w hw => hload w (mem_allWheels_right hmem hw)
    simp [List.any_eq_true]

/-! ### The length of a VEHICLE payload -/

theorem loadBytes_length_le (d : Option WheelData) : (loadBytes d).length ≤ 2 := by
  unfold loadBytes
  split
  · split
    · exact Nat.zero_le 2
    · exact le_of_eq (bytesOf_length 2 _)
  · exact Nat.zero_le 2

theorem axleRecord_length_le {a : Axle} {e : Bool}
    (h : a.kind ≠ .pending ∧ (a.kind = .part → a.left = none ∨ a.right = none)) : (axleRecord a e).length ≤ 5 := by
  have hleft := loadBytes_length_le a.left
  have hright := loadBytes_length_le a.right
  have hlen : (axleRecord a e).length = 1 + (if axleForm a = 3 ∨ axleForm a = 4 then 1 else 0) +
      (loadBytes a.left).length + (loadBytes a.right).length := by
    rw [axleRecord]
    split_ifs <;> simp <;> omega
  cases hk : a.kind with
  | pending => exact absurd hk h.1
  | full =>
    rw [hlen, if_neg (by simp [axleForm, hk])]
    omega
  | merged =>
    have hno : ¬(axleForm a = 3 ∨ axleForm a = 4) := by
      simp only [axleForm, hk]
      split_ifs <;> decide
    rw [hlen, if_neg hno]
    omega
  | part =>
    have hempty : (loadBytes a.left).length = 0 ∨ (loadBytes a.right).length = 0 := by
      rcases h.2 hk with hside | hside
      · exact .inl (by rw [hside]; rfl)
      · exact .inr (by rw [hside]; rfl)
    rw [hlen]
    split_ifs <;> omega

theorem length_flatten_le {α : Type} {m : Nat} {l : List (List α)} (h : ∀ x ∈ l, x.length ≤ m) :
    l.flatten.length ≤ m * l.length := by
  rw [List.length_flatten]
  simpa [Nat.mul_comm] using List.sum_le_card_nsmul (l.map List.length) m (by simpa using h)

theorem spacings_length_le (l : List Axle) : (spacings l).length ≤ l.length - 1 := by
  induction l with
  | nil => exact le_rfl
  | cons a l ih =>
    cases l with
    | nil => exact le_rfl
    | cons b l =>
      simp only [spacings, List.length_cons] at ih ⊢
      omega

theorem vehiclePayload_length_le {v : Vehicle} {c : Classed} (hout : v.outcome = some c) (hlen : v.axles.length ≤ 12)
    (h : ∀ a ∈ v.axles, a.kind ≠ .pending ∧ (a.kind = .part → a.left = none ∨ a.right = none)) :
    (vehiclePayload v).length ≤ 80 := by
  have hrecords : ∀ x ∈ axleRecords v c, x.length ≤ 5 := by
    intro x hx
    obtain ⟨⟨a, k⟩, ha, rfl⟩ := List.mem_map.1 hx
    exact axleRecord_length_le (h a (List.fst_mem_of_mem_zipIdx ha))
  have hflat := length_flatten_le hrecords
  have hspace := spacings_length_le v.axles
  have hfixed : (vehicleFixed v c).length = 9 := rfl
  rw [axleRecords_length] at hflat
  rw [vehiclePayload_eq hout, List.length_append, List.length_append, List.length_map, hfixed]
  omega

/-- Settles O60, frame kind by frame kind. -/
theorem framesReadBackAsFormed : Obligations.FramesReadBackAsFormed := by
  unfold Obligations.FramesReadBackAsFormed
  refine ⟨crcRun_wireBytes, fun s t u dest hg ht => ⟨(stampBeacon_reads hg ht).1, newPeer_reads dest hg ht⟩,
    fun v c hout hlen hlead hcls hentry hspeed htemp hload => ⟨vehicleLayout hout hlen hlead hcls hentry hspeed htemp hload,
      vehiclePayload_length_le hout hlen⟩,
    fun lane v c hlane hcls hentry hspeed hgross hcount hex =>
      overloadLayout hlane hcls hentry hspeed hgross hcount hex,
    fun s h hg => ⟨beaconLayout h hg, startLayout h⟩, fun s hv hl hg h0 h1 hn => temperatureLayout hv hl hg h0 h1 hn,
    fun s h hlen hpos hrun hclear => laneClearLayout h hlen hpos hrun hclear,
    ⟨rfl, rfl, rfl, rfl, rfl, rfl, fun _ _ _ => rfl, rfl, fun _ => rfl⟩,
    fun ref w n x src hlow hhigh hn hx hd => halfPayload_reads hlow hhigh ⟨n, x, src, w.data.uncalibrated, hn, hx, hd⟩⟩

end Sys2Proof.Machine

namespace Sys2Proof.Machine

open Sys2Proof

/-! The peer-half table: what a received HALF_AXLE does, and the match with a WAITING entry (O36). -/

/-! ### The sender of a HALF_AXLE (R68, R74) -/

theorem mem_peers_of_soleClaimant {s : State} {lane : Nat} {p : Peer} (h : soleClaimant s lane = some p) :
    p ∈ s.peers := (List.mem_filter.1 (mem_claimants_of_soleClaimant h)).1

/-- The neighbour usable for the owner is an ALIGNED peer. -/
theorem isAligned_of_ownerNeighbour {s : State} {p : Peer} (h : ownerNeighbour s = some p) : isAligned s p.station = true := by
  unfold ownerNeighbour at h
  split at h
  · obtain ⟨hsole, hstate⟩ := Option.filter_eq_some_iff.1 h
    exact List.any_eq_true.2 ⟨p, mem_peers_of_soleClaimant hsole, by simpa using hstate⟩
  · cases h

theorem halfSender_some {s : State} {f : RxFrame} {p : Peer} (hrun : s.ctl.station = .run)
    (hform : halfMalformed f.payload = false) (hpath : byteAt f.payload 1 = 0) (hp : ownerNeighbour s = some p)
    (hstation : p.station = f.source) : halfSender s f = some p := by
  simp [halfSender, inRun, hrun, hform, hpath, hp, hstation]

theorem halfSender_none {s : State} {f : RxFrame}
    (h : s.ctl.station ≠ .run ∨ halfMalformed f.payload = true ∨ byteAt f.payload 1 ≠ 0 ∨ ownerNeighbour s = none ∨
      ∃ p, ownerNeighbour s = some p ∧ p.station ≠ f.source) : halfSender s f = none := by
  unfold halfSender
  rcases h with h | h | h | h | ⟨p, hp, hne⟩
  · exact if_neg (by simp [inRun, h])
  · exact if_neg (by simp [h])
  · exact if_neg (by rw [decide_eq_false h]; simp)
  · simp [h]
  · simp [hp, hne]

theorem exec_halfAxleReceived {s : State} {f : RxFrame} {rest : List RxFrame} (h : AtFront 0x10 f rest s) :
    exec .halfAxleReceived s = .next (endEvent s (takeHalfAxle f (taken rest s))) := by
  show execHalfAxleReceived s = _
  rw [execHalfAxleReceived, deliver_front h]

theorem takeHalfAxle_dropped {s : State} {f : RxFrame} (h : halfSender s f = none) :
    takeHalfAxle f s = bump .halvesDropped s := by rw [takeHalfAxle, h]

theorem takeHalfAxle_kept {s : State} {f : RxFrame} {p : Peer} (h : halfSender s f = some p)
    (hw : waitingFor (peerHalfOf s p f) (enterHalf (peerHalfOf s p f) s) = none) :
    takeHalfAxle f s = enterHalf (peerHalfOf s p f) s := by
  simp only [takeHalfAxle, h, hw]

theorem takeHalfAxle_matched {s : State} {f : RxFrame} {p : Peer} {e : MergeEntry} (h : halfSender s f = some p)
    (hw : waitingFor (peerHalfOf s p f) (enterHalf (peerHalfOf s p f) s) = some e) :
    takeHalfAxle f s = takeMerge e (peerHalfOf s p f) (enterHalf (peerHalfOf s p f) s) := by
  simp only [takeHalfAxle, h, hw]

theorem peerHalfOf_spec (s : State) (p : Peer) (f : RxFrame) : PeerHalfFrom s p f (peerHalfOf s p f) :=
  ⟨rfl, rfl, rfl, rfl, rfl, rfl⟩

/-! ### The peer-half table (R74) -/

theorem enterHalf_replaces {s : State} {h x : PeerHalf} {before behind : List PeerHalf}
    (hl : s.former.halves = before ++ x :: behind) (hx : halfIs h.sender h.ref x = true)
    (hbefore : ∀ y ∈ before, halfIs h.sender h.ref y = false) :
    enterHalf h s = s.withFormer { s.former with halves := before ++ h :: behind } := by
  have hany : s.former.halves.any (halfIs h.sender h.ref) = true := List.any_eq_true.2 ⟨x, by simp [hl], hx⟩
  rw [enterHalf, if_pos hany, hl, changeFirst_at _ _ _ _ _ hbefore hx]

theorem enterHalf_room {s : State} {h : PeerHalf} (hnone : ∀ y ∈ s.former.halves, halfIs h.sender h.ref y = false)
    (hroom : s.former.halves.length < 8) :
    enterHalf h s = s.withFormer { s.former with halves := s.former.halves ++ [h] } := by
  have hany : s.former.halves.any (halfIs h.sender h.ref) = false := List.any_eq_false.2 fun y hy => by simp [hnone y hy]
  have hcap : s.former.halves.length < halvesCap := hroom
  simp only [enterHalf, hany, pushBounded, if_pos hcap]
  rfl

theorem enterHalf_full {s : State} {h oldest : PeerHalf} {newer : List PeerHalf}
    (hnone : ∀ y ∈ s.former.halves, halfIs h.sender h.ref y = false) (hl : s.former.halves = oldest :: newer)
    (hlen : newer.length = 7) :
    enterHalf h s = (bump .halvesDropped s).withFormer { s.former with halves := newer ++ [h] } := by
  have hany : s.former.halves.any (halfIs h.sender h.ref) = false := List.any_eq_false.2 fun y hy => by simp [hnone y hy]
  have hcap : ¬s.former.halves.length < halvesCap := by rw [hl, List.length_cons, hlen]; decide
  have hpush : pushBounded halvesCap s.former.halves h = newer ++ [h] := by rw [pushBounded, if_neg hcap, hl]; rfl
  simp only [enterHalf, hany, hpush, if_neg hcap]
  rfl

theorem enterHalf_merges (h : PeerHalf) (s : State) : (enterHalf h s).former.merges = s.former.merges := by
  unfold enterHalf
  dsimp only
  split_ifs <;> rfl

theorem waitingFor_none {h : PeerHalf} {s : State} (hnone : ∀ e ∈ s.former.merges, e.state ≠ .waiting) :
    waitingFor h s = none := by
  rw [waitingFor, List.find?_eq_none]
  intro e he
  simp [hnone e he]

theorem waitingFor_at {h : PeerHalf} {s : State} {mb ma : List MergeEntry} {e : MergeEntry}
    (hl : s.former.merges = mb ++ e :: ma) (he : e.state = .waiting) (hm : halfMatches s e h = true)
    (hbefore : ∀ x ∈ mb, x.state = .waiting → halfMatches s x h = false) : waitingFor h s = some e := by
  have hno : ∀ x ∈ mb, ¬(decide (x.state = .waiting) && halfMatches s x h) = true := by
    intro x hx
    by_cases hw : x.state = .waiting
    · simp [hbefore x hx hw]
    · simp [hw]
  rw [waitingFor, hl, List.find?_append, List.find?_eq_none.2 hno]
  simp [he, hm]

/-- The peer half that is kept, with no WAITING entry to match. -/
theorem exec_halfAxleReceived_kept {s : State} {f : RxFrame} {rest : List RxFrame} {p : Peer} (h : AtFront 0x10 f rest s)
    (hsender : halfSender s f = some p) (hnone : ∀ e ∈ s.former.merges, e.state ≠ .waiting) :
    exec .halfAxleReceived s = .next (endEvent s (enterHalf (peerHalfOf s p f) (taken rest s))) := by
  have hw : waitingFor (peerHalfOf (taken rest s) p f) (enterHalf (peerHalfOf (taken rest s) p f) (taken rest s)) = none :=
    waitingFor_none (by rw [enterHalf_merges]; exact hnone)
  rw [exec_halfAxleReceived h, takeHalfAxle_kept (s := taken rest s) (p := p) hsender hw]
  rfl

/-- The peer half that finds a WAITING entry in its place in the peer-half table. -/
theorem exec_halfAxleReceived_matched {s : State} {f : RxFrame} {rest : List RxFrame} {p : Peer} {e : MergeEntry}
    (h : AtFront 0x10 f rest s) (hsender : halfSender s f = some p)
    (hw : waitingFor (peerHalfOf s p f) (enterHalf (peerHalfOf s p f) (taken rest s)) = some e) :
    exec .halfAxleReceived s =
      .next (endEvent s (takeMerge e (peerHalfOf s p f) (enterHalf (peerHalfOf s p f) (taken rest s)))) := by
  rw [exec_halfAxleReceived h, takeHalfAxle_matched (s := taken rest s) (p := p) hsender hw]
  rfl

/-! ### The match (R76, R77) -/

theorem takeMerge_admitted {e : MergeEntry} {h : PeerHalf} {s : State} (hroom : s.link.queue.length < 16) :
    takeMerge e h s = bump .mergesTaken (moveAxle e (mergedAxle e.own h) h.data.uncalibrated
      (dropHalf h.sender h.ref (changeMerge e.slot
        (fun m => { m with state := .taken, ref := some h.ref, deadline := s.tick + 2400 })
        (s.withLink { s.link with queue := s.link.queue ++ [mkFrame .mergeTake e.partner [h.ref]] })))) := by
  simp only [takeMerge, offerUrgent_room hroom]
  rfl

theorem takeMerge_refused {e : MergeEntry} {h : PeerHalf} {s : State} (hfull : s.link.queue.length = 16)
    (hclass : ∀ x ∈ s.link.queue, frameClass x.kind = 2 → x.sending = true)
    (hvehicle : ∀ x ∈ s.link.queue, x.kind = .vehicle → x.sending = true) :
    takeMerge e h s = mergeFull (endTaken e (fun a => { a with kind := .part, link := none }) (txDrop s)) := by
  have hdrop : offerUrgent (mkFrame .mergeTake e.partner [h.ref]) s = (txDrop s, false) :=
    offerUrgent_drops hfull (not_classTwoWaiting hclass) rfl (not_vehicleWaiting hvehicle)
  simp only [takeMerge, hdrop, giveUpMerge_eq]
  rfl

/-- The other entries of a table of distinct places have other places. -/
theorem slot_ne_of_nodup {mb ma : List MergeEntry} {e : MergeEntry}
    (hnodup : ((mb ++ e :: ma).map MergeEntry.slot).Nodup) : ∀ x ∈ mb ++ ma, x.slot ≠ e.slot := by
  intro x hx hs
  have hperm : ((e :: (mb ++ ma)).map MergeEntry.slot).Nodup := (List.Perm.map _ List.perm_middle).nodup_iff.1 hnodup
  exact (List.nodup_cons.1 hperm).1 (List.mem_map.2 ⟨x, hx, hs⟩)

theorem map_slot_at {mb ma : List MergeEntry} {e : MergeEntry} (g : MergeEntry → MergeEntry)
    (hne : ∀ x ∈ mb ++ ma, x.slot ≠ e.slot) :
    ((mb ++ e :: ma).map fun m => if m.slot = e.slot then g m else m) = mb ++ g e :: ma := by
  have hkeep : ∀ l : List MergeEntry, (∀ x ∈ l, x.slot ≠ e.slot) →
      (l.map fun m => if m.slot = e.slot then g m else m) = l := fun l hl =>
    (List.map_congr_left fun x hx => if_neg (hl x hx)).trans (List.map_id l)
  rw [List.map_append, List.map_cons, hkeep mb fun x hx => hne x (by simp [hx]),
    hkeep ma fun x hx => hne x (by simp [hx]), if_pos rfl]

theorem filter_slot_at {mb ma : List MergeEntry} {e : MergeEntry} (hne : ∀ x ∈ mb ++ ma, x.slot ≠ e.slot) :
    ((mb ++ e :: ma).filter fun m => decide (m.slot ≠ e.slot)) = mb ++ ma := by
  have hkeep : (mb ++ ma).filter (fun m => decide (m.slot ≠ e.slot)) = mb ++ ma :=
    List.filter_eq_self.2 fun x hx => decide_eq_true (hne x hx)
  rw [List.filter_append] at hkeep ⊢
  rw [List.filter_cons_of_neg (by simp), hkeep]

/-- The half just entered is the one a match drops. -/
theorem dropHalf_entered {l : List PeerHalf} {h : PeerHalf} (hnone : ∀ y ∈ l, halfIs h.sender h.ref y = false) :
    ((l ++ [h]).filter fun y => !halfIs h.sender h.ref y) = l := by
  rw [List.filter_append, List.filter_eq_self.2 fun y hy => by simp [hnone y hy]]
  simp [halfIs]

theorem meanTime_spec (h1 h2 : HalfTick) :
    (0 ≤ sdiff h2 h1 → meanTime h1 h2 = h1 + BitVec.ofNat 32 (((sdiff h2 h1).natAbs + 1) / 2)) ∧
      (sdiff h2 h1 < 0 → meanTime h1 h2 = h2 + BitVec.ofNat 32 (((sdiff h2 h1).natAbs + 1) / 2)) := by
  constructor
  · intro h
    rw [meanTime, if_neg (not_lt.2 h), roundHalfUp_two]
    rfl
  · intro h
    rw [meanTime, if_pos h, roundHalfUp_two]
    rfl

theorem exec_peerHalfExpiry {s : State} {h : PeerHalf} (hmem : h ∈ s.former.halves) (hr : reached s.tick h.expiry = true) :
    exec (.peerHalfExpiry h.sender h.ref) s = .next (dropHalf h.sender h.ref s) :=
  if_pos (List.any_eq_true.2 ⟨h, hmem, by simp [halfIs, hr]⟩)

/-- A half that is only entered leaves everything outside the peer-half table as it was. -/
theorem entered_spec {before s : State} (rest : List RxFrame) (l : List PeerHalf) :
    let t := endEvent before ((taken rest s).withFormer { s.former with halves := l })
    t.former = { s.former with halves := l } ∧ t.counters = s.counters ∧ t.veh.entries = s.veh.entries ∧
      t.link = takenLink rest s ∧ SameMeasuring s t := by
  exact ⟨by simp, by simp, by simp, by simp; rfl, by simp [SameMeasuring]⟩

theorem halfIs_false {f : RxFrame} {s : State} {p : Peer}
    (h : ∀ x ∈ s.former.halves, x.sender = f.source → x.ref ≠ byteAt f.payload 0) :
    ∀ y ∈ s.former.halves, halfIs (peerHalfOf s p f).sender (peerHalfOf s p f).ref y = false := by
  intro y hy
  rw [Bool.eq_false_iff]
  simp only [halfIs, ne_eq, Bool.and_eq_true, decide_eq_true_eq]
  exact fun ⟨hs, hr⟩ => h y hy hs hr

/-- A WAITING entry matches the half of its partner near its own time and at its own speed (R76). -/
theorem halfMatches_iff {s z : State} {e : MergeEntry} {f : RxFrame} {p : Peer}
    (haligned : isAligned z f.source = true) (hpartner : e.partner = f.source) :
    halfMatches z e (peerHalfOf s p f) =
      (within (BitVec.ofNat 32 (numAt f.payload 2 4) - (p.offset + p.offset)) e.own.time 160 &&
        speedsAgree ((2 * (numAt f.payload 6 2 * 1000) + 36) / 72) e.own.speed) := by
  have hsender : (peerHalfOf s p f).sender = f.source := rfl
  rw [halfMatches, hsender, haligned, hpartner]
  simp only [decide_true, Bool.true_and]
  rfl

theorem halfMatches_stranger {s z : State} {e : MergeEntry} {f : RxFrame} {p : Peer} (h : e.partner ≠ f.source) :
    halfMatches z e (peerHalfOf s p f) = false := by
  have hne : (peerHalfOf s p f).sender ≠ e.partner := fun heq => h heq.symm
  simp [halfMatches, hne]

/-- The MERGED axle takes its place by its own mean time, with the mean speed rounded half up (R67, R77). -/
theorem mergedAxle_placed (w : OwnWheel) (h : PeerHalf) (a : Axle) (l : List Axle) :
    PlacedByTime
      { a with
        time := meanTime w.time h.centre
        speed := (w.speed + h.speed + 1) / 2
        left := some w.data
        right := some h.data
        kind := .merged
        ref := some h.ref } l (insertAxle (mergedAxle w h a) l) := by
  rw [← roundHalfUp_two]
  exact placedByTime_insertAxle (mergedAxle w h a) l

/-- What a match leaves when the MERGE_TAKE finds a place. -/
theorem matched_spec {z : State} {e : MergeEntry} {h : PeerHalf} {mb ma : List MergeEntry}
    {vb va : List Vehicle} {v : Vehicle} {older newer : List Axle} {a : Axle} (hmerges : z.former.merges = mb ++ e :: ma)
    (hne : ∀ x ∈ mb ++ ma, x.slot ≠ e.slot) (hroom : z.link.queue.length < 16)
    (hl : z.veh.entries = vb ++ v :: va) (hv : v.number = e.vehicle) (hother : ∀ x ∈ vb ++ va, x.number ≠ e.vehicle)
    (haxles : v.axles = older ++ a :: newer) (ha : a.link = some e.slot) (holder : ∀ x ∈ older, x.link ≠ some e.slot) :
    (takeMerge e h z).former = { z.former with
        merges := mb ++ { e with state := .taken, ref := some h.ref, deadline := z.tick + 2400 } :: ma
        halves := z.former.halves.filter fun y => !halfIs h.sender h.ref y } ∧
      (takeMerge e h z).veh.entries = vb ++ { v with
        axles := insertAxle (mergedAxle e.own h a) (older ++ newer)
        uncalibrated := v.uncalibrated || h.data.uncalibrated } :: va ∧
      (takeMerge e h z).link = { z.link with queue := z.link.queue ++ [mkFrame .mergeTake e.partner [h.ref]] } ∧
      (takeMerge e h z).counters = z.counters.bump .mergesTaken := by
  rw [takeMerge_admitted hroom]
  refine ⟨?_, moveAxle_at (mergedAxle e.own h) h.data.uncalibrated hl hv hother haxles ha holder, rfl, rfl⟩
  have hmap := map_slot_at (fun m => { m with state := .taken, ref := some h.ref, deadline := z.tick + 2400 }) hne
  rw [← hmerges] at hmap
  rw [← hmap]
  rfl

/-- What a match leaves when the queue refuses the MERGE_TAKE and no vehicle leaves CLOSING. -/
theorem refused_spec {z : State} {e : MergeEntry} {h : PeerHalf} {mb ma : List MergeEntry}
    (hmerges : z.former.merges = mb ++ e :: ma) (hne : ∀ x ∈ mb ++ ma, x.slot ≠ e.slot)
    (hfull : z.link.queue.length = 16) (hclass : ∀ x ∈ z.link.queue, frameClass x.kind = 2 → x.sending = true)
    (hvehicle : ∀ x ∈ z.link.queue, x.kind = .vehicle → x.sending = true) (hnone : NoneLeavesClosing e z) :
    (takeMerge e h z).former = { z.former with merges := mb ++ ma } ∧
      (takeMerge e h z).veh.entries =
        withLinkedAxles e (fun a => { a with kind := .part, link := none }) z.veh.entries ∧
      (takeMerge e h z).counters = (z.counters.bump .txDrop).bump .mergeFull ∧
      (takeMerge e h z).raised = { z.raised with queueLoss := true } ∧
      (takeMerge e h z).link.queue.map TxFrame.payload = z.link.queue.map TxFrame.payload ∧
      (takeMerge e h z).link.rxQueue = z.link.rxQueue := by
  have hfilter := filter_slot_at hne
  rw [← hmerges] at hfilter
  rw [takeMerge_refused hfull hclass hvehicle, endTaken_stays (s := txDrop z) hnone, ← hfilter]
  exact ⟨rfl, changeAxle_entries e _ (txDrop z), rfl, rfl,
    (raise_queue_map _ (fun _ _ => rfl) _ _).trans (txDrop_queue_payload z), rfl⟩

/-- What it leaves when the vehicle leaves CLOSING with it. -/
theorem refused_leaves_spec {z : State} {e : MergeEntry} {h : PeerHalf} {mb ma : List MergeEntry}
    {v : Vehicle} {vb va : List Vehicle} (hmerges : z.former.merges = mb ++ e :: ma)
    (hne : ∀ x ∈ mb ++ ma, x.slot ≠ e.slot) (hfull : z.link.queue.length = 16)
    (hclass : ∀ x ∈ z.link.queue, frameClass x.kind = 2 → x.sending = true)
    (hvehicle : ∀ x ∈ z.link.queue, x.kind = .vehicle → x.sending = true) (hlast : LastWaitOf e v vb va z)
    (haxles : v.axles ≠ []) :
    (takeMerge e h z).former = { z.former with merges := mb ++ ma } ∧
      LeftClosing v (changedAxles e (fun a => { a with kind := .part, link := none }) v.axles) z (takeMerge e h z) ∧
      (takeMerge e h z).counters.mergeFull = satInc z.counters.mergeFull ∧
      (takeMerge e h z).raised.queueLoss = true ∧ (takeMerge e h z).link.rxQueue = z.link.rxQueue := by
  have hfilter := filter_slot_at hne
  rw [← hmerges] at hfilter
  rw [takeMerge_refused hfull hclass hvehicle, ← hfilter]
  have hleft := endTaken_leaves (s := txDrop z) hlast haxles fun a => { a with kind := .part, link := none }
  refine ⟨endTaken_former e _ (txDrop z), (hleft.of_start (s := z) rfl rfl rfl).of_veh rfl rfl, ?_, rfl,
    line_rxQueue ((mergeFull_line _).trans (endTaken_line _ _ _))⟩
  exact congrArg satInc (leaveClosing_counter Counters.mergeFull (fun _ => rfl) (fun _ => rfl) _ _)

/-- Settles O36, by the sender, the peer-half table and the first WAITING entry that matches. -/
theorem peerHalvesEnterMatchAndExpire : Obligations.PeerHalvesEnterMatchAndExpire := by
  unfold Obligations.PeerHalvesEnterMatchAndExpire
  refine ⟨fun s h hmem hr => exec_peerHalfExpiry hmem hr, fun s f rest h hno => ?_,
    fun s f rest p h hrun hform hpath hp hstation => ⟨fun before behind x hl hxs hxr hbefore hnone => ?_, fun hnew =>
      ⟨fun hroom hnone => ?_, fun oldest newer hl hlen hnone => ?_,
        fun mb ma e centre speed hmerges hnodup he hpartner hcentre hspeed hwithin hagree hmb hroom => ?_⟩⟩,
    meanTime_spec⟩
  · refine ⟨_, (exec_halfAxleReceived h).trans (by rw [takeHalfAxle_dropped (s := taken rest s) (halfSender_none hno)]), ?_⟩
    simp [SameMeasuring]
    rfl
  · have hsender := halfSender_some hrun hform hpath hp hstation
    have hexec := exec_halfAxleReceived_kept h hsender hnone
    have hother : ∀ y ∈ before, halfIs (peerHalfOf s p f).sender (peerHalfOf s p f).ref y = false := by
      intro y hy
      rw [Bool.eq_false_iff]
      simp only [halfIs, ne_eq, Bool.and_eq_true, decide_eq_true_eq]
      exact fun ⟨hs, hr⟩ => hbefore y hy hs hr
    rw [enterHalf_replaces (s := taken rest s) (x := x) hl (by simp [halfIs, peerHalfOf, hxs, hxr]) hother] at hexec
    · obtain ⟨hformer, hcounters, hveh, hlink, hsame⟩ :=
        entered_spec (before := s) (s := s) rest (before ++ peerHalfOf s p f :: behind)
      exact ⟨_, _, hexec, hformer, peerHalfOf_spec s p f, hcounters, hveh, hlink, hsame⟩
  · have hsender := halfSender_some hrun hform hpath hp hstation
    have hexec := exec_halfAxleReceived_kept h hsender hnone
    rw [enterHalf_room (s := taken rest s) (h := peerHalfOf s p f) (halfIs_false hnew) hroom] at hexec
    obtain ⟨hformer, hcounters, hveh, hlink, hsame⟩ :=
      entered_spec (before := s) (s := s) rest (s.former.halves ++ [peerHalfOf s p f])
    exact ⟨_, _, hexec, hformer, peerHalfOf_spec s p f, hcounters, hveh, hlink, hsame⟩
  · have hsender := halfSender_some hrun hform hpath hp hstation
    have hexec := exec_halfAxleReceived_kept h hsender hnone
    rw [enterHalf_full (s := taken rest s) (h := peerHalfOf s p f) (halfIs_false hnew) hl hlen] at hexec
    exact ⟨_, _, hexec, by simp, peerHalfOf_spec s p f, by simp, by simp, by simp; rfl, by simp [SameMeasuring]⟩
  · subst hcentre hspeed
    have hsender := halfSender_some hrun hform hpath hp hstation
    have haligned : isAligned s f.source = true := hstation ▸ isAligned_of_ownerNeighbour hp
    have hz := enterHalf_room (s := taken rest s) (h := peerHalfOf s p f) (halfIs_false hnew) hroom
    have hw : waitingFor (peerHalfOf s p f) (enterHalf (peerHalfOf s p f) (taken rest s)) = some e := by
      rw [hz]
      refine waitingFor_at hmerges he ?_ fun x hx hxw => ?_
      · exact (halfMatches_iff haligned hpartner).trans (by rw [hwithin, hagree]; rfl)
      · by_cases hxp : x.partner = f.source
        · refine (halfMatches_iff haligned hxp).trans (Bool.and_eq_false_imp.2 fun hxin => hmb x hx hxw hxp hxin)
        · exact halfMatches_stranger hxp
    have hne := slot_ne_of_nodup (hmerges ▸ hnodup)
    have hexec := exec_halfAxleReceived_matched h hsender hw
    rw [hz] at hexec
    refine ⟨fun vb va v older newer a hq hl hv hother haxles ha holder => ?_, fun hfull hclass hvehicle =>
      ⟨fun hnone => ?_, fun v vb va hlast haxles => ?_⟩⟩
    · obtain ⟨hformer, hentries, hlink, hcounters⟩ := matched_spec (h := peerHalfOf s p f)
        (z := (taken rest s).withFormer { s.former with halves := s.former.halves ++ [peerHalfOf s p f] })
        hmerges hne hq hl hv hother haxles ha holder
      have hdrop := dropHalf_entered (halfIs_false (p := p) hnew)
      refine ⟨_, _, hexec, ?_, (endEvent_entries _ _).trans hentries,
        mergedAxle_placed e.own (peerHalfOf s p f) a (older ++ newer), ?_, (endEvent_counters _ _).trans hcounters, ?_,
        by simp [SameMeasuring]⟩
      · refine (endEvent_former _ _).trans (hformer.trans ?_)
        exact congrArg (fun l => { s.former with
          merges := mb ++ { e with state := .taken, ref := some (byteAt f.payload 0), deadline := s.tick + 2400 } :: ma,
          halves := l }) hdrop
      · exact congrArg Link.queue ((endEvent_link _ _).trans hlink)
      · exact congrArg Link.rxQueue ((endEvent_link _ _).trans hlink)
    · obtain ⟨hformer, hentries, hcounters, hraised, hpayload, hrx⟩ := refused_spec (h := peerHalfOf s p f)
        (z := (taken rest s).withFormer { s.former with halves := s.former.halves ++ [peerHalfOf s p f] })
        hmerges hne hfull hclass hvehicle hnone
      refine ⟨_, _, hexec, (endEvent_former _ _).trans hformer, peerHalfOf_spec s p f,
        (endEvent_entries _ _).trans hentries, (endEvent_counters _ _).trans hcounters,
        (endEvent_raised _ _).trans hraised, ?_, ?_, by simp [SameMeasuring]⟩
      · exact (congrArg (fun l => l.queue.map TxFrame.payload) (endEvent_link _ _)).trans hpayload
      · exact (congrArg Link.rxQueue (endEvent_link _ _)).trans hrx
    · obtain ⟨hformer, hleft, hcounter, hraised, hrx⟩ := refused_leaves_spec (h := peerHalfOf s p f)
        (z := (taken rest s).withFormer { s.former with halves := s.former.halves ++ [peerHalfOf s p f] })
        hmerges hne hfull hclass hvehicle hlast haxles
      refine ⟨_, _, hexec, (endEvent_former _ _).trans hformer, peerHalfOf_spec s p f,
        (hleft.of_start (s := s) rfl rfl rfl).endEvent, ?_, ?_, ?_, by simp [SameMeasuring]⟩
      · exact (congrArg Counters.mergeFull (endEvent_counters _ _)).trans hcounter
      · exact (congrArg Raised.queueLoss (endEvent_raised _ _)).trans hraised
      · exact (congrArg Link.rxQueue (endEvent_link _ _)).trans hrx

end Sys2Proof.Machine

namespace Sys2Proof.Machine

open Sys2Proof

/-! A lone wheel on a shared edge (O34). -/

/-! ### A free place and a free reference (R69) -/

theorem freeSlot_free {l : List MergeEntry} (h : l.length < 8) : ∀ e ∈ l, e.slot ≠ freeSlot l := by
  have hfree : ∃ k ∈ List.range mergeCap, (l.all fun e => decide (e.slot ≠ k)) = true := by
    by_contra hno
    have hsub : List.range mergeCap ⊆ l.map MergeEntry.slot := by
      intro k hk
      by_contra hmem
      exact hno ⟨k, hk, List.all_eq_true.2 fun e he => decide_eq_true fun hs => hmem (List.mem_map.2 ⟨e, he, hs⟩)⟩
    have hle := (List.nodup_range.subperm hsub).length_le
    rw [List.length_map, List.length_range] at hle
    exact absurd hle (Nat.not_le.2 h)
  obtain ⟨k, hk⟩ := Option.isSome_iff_exists.1 (List.find?_isSome.2 hfree)
  have hall := List.find?_some hk
  rw [freeSlot, hk]
  intro e he
  simpa using List.all_eq_true.1 hall e he

theorem refHeld_iff (l : List MergeEntry) (r : Byte) : refHeld l r = true ↔ ReferenceHeld l r := by
  simp [refHeld, ReferenceHeld]

/-- The reference a ceder entry takes is the first from the counter on that none holds. -/
theorem nextReference_nextRef {f : Former} (h : f.merges.length < 8) : NextReference f (nextRef f) := by
  have hfree : ∃ k, k < 9 ∧ refHeld f.merges (f.refCounter + BitVec.ofNat 8 k) = false := by
    by_contra hno
    have hheld : ∀ k < 9, refHeld f.merges (f.refCounter + BitVec.ofNat 8 k) = true := by
      intro k hk
      by_contra hfalse
      exact hno ⟨k, hk, Bool.not_eq_true _ ▸ hfalse⟩
    have hnodup : ((List.range 9).map fun k => some (f.refCounter + BitVec.ofNat 8 k)).Nodup := by
      refine List.Nodup.map_on (fun x hx y hy hxy => ?_) List.nodup_range
      have hx9 := List.mem_range.1 hx
      have hy9 := List.mem_range.1 hy
      have hcast := congrArg BitVec.toNat (add_left_cancel (Option.some.inj hxy))
      simp only [BitVec.toNat_ofNat] at hcast
      omega
    have hsub : ((List.range 9).map fun k => some (f.refCounter + BitVec.ofNat 8 k)) ⊆ f.merges.map MergeEntry.ref := by
      intro r hr
      obtain ⟨k, hk, rfl⟩ := List.mem_map.1 hr
      obtain ⟨e, he, -, href⟩ := (refHeld_iff _ _).1 (hheld k (List.mem_range.1 hk))
      exact List.mem_map.2 ⟨e, he, href⟩
    have hle := (hnodup.subperm hsub).length_le
    rw [List.length_map, List.length_map, List.length_range] at hle
    omega
  have hfind : ((List.range 9).find? fun k => !refHeld f.merges (f.refCounter + BitVec.ofNat 8 k)).isSome = true := by
    obtain ⟨k, hk, hno⟩ := hfree
    exact List.find?_isSome.2 ⟨k, List.mem_range.2 hk, by rw [hno]; rfl⟩
  obtain ⟨k, hk⟩ := Option.isSome_iff_exists.1 hfind
  obtain ⟨hno, -, hbefore⟩ := List.find?_range_eq_some.1 hk
  have hnext : nextRef f = f.refCounter + BitVec.ofNat 8 k := by
    have hmap : (((List.range 9).map fun k => f.refCounter + BitVec.ofNat 8 k).find? fun r => !refHeld f.merges r) =
        some (f.refCounter + BitVec.ofNat 8 k) := by
      rw [List.find?_map]
      exact congrArg (Option.map _) hk
    exact congrArg (fun o => Option.getD o f.refCounter) hmap
  refine ⟨k, hnext, ?_, fun j hj => ?_⟩
  · rw [hnext, ← refHeld_iff]
    simpa using hno
  · rw [← refHeld_iff]
    simpa using hbefore j hj

/-! ### The axle of a lone wheel in the assembler (R86, R91) -/

theorem handAxle_opens {s : State} (hopen : openEntry s = none) (hroom : s.veh.entries.length < 8) (a : Axle) :
    handAxle a s = ((bump .axlesFormed s).withVeh { s.veh with
      entries := s.veh.entries ++ [newVehicle s a none], counter := s.veh.counter + 1
      lastOpened := some s.veh.counter, runCount := 0 }, some s.veh.counter) :=
  (placeAxle_of_none (s := endRun (bump .axlesFormed s)) hopen a).trans
    (openVehicle_room (s := endRun (bump .axlesFormed s)) hroom a none)

theorem handAxle_lost {s : State} (hopen : openEntry s = none) (hfull : s.veh.entries.length = 8) (a : Axle) :
    handAxle a s = (raise .queueLoss (bump .vehicleLoss (endRun (bump .axlesFormed s))), none) :=
  (placeAxle_of_none (s := endRun (bump .axlesFormed s)) hopen a).trans
    (openVehicle_full (s := endRun (bump .axlesFormed s)) hfull a none)

/-! ### The ceder side (R70, R71) -/

theorem takeLone_left {w : WeighedHit} {s : State} (hp : w.hit.path = .left) (hs : s.straps.leftNeighbour = true) :
    takeLone w s = cederHalf (ownWheel w) s := by simp [takeLone, hp, hs]

theorem takeLone_right {w : WeighedHit} {s : State} (hp : w.hit.path = .right) (hs : s.straps.rightNeighbour = true) :
    takeLone w s = ownerHalf (ownWheel w) s := by simp [takeLone, hp, hs]

theorem cederHalf_none {w : OwnWheel} {s : State} (h : cederNeighbour s = none) :
    cederHalf w s = (handAxle (partAxle w none) s).1 := by rw [cederHalf, h]; rfl

theorem cederHalf_full {w : OwnWheel} {s : State} {p : Peer} (h : cederNeighbour s = some p)
    (hfull : s.former.merges.length = 8) : cederHalf w s = mergeFull (handAxle (partAxle w none) s).1 := by
  have hcap : mergeCap ≤ s.former.merges.length := by rw [hfull]; exact le_rfl
  simp only [cederHalf, h, if_pos hcap]
  rfl

/-- The station with its HALF_AXLE queued and the reference counter past the reference it took. -/
def halfOffered (w : OwnWheel) (p : Peer) (r : Byte) (s : State) : State :=
  (s.withFormer { s.former with refCounter := r + 1 }).withLink
    { s.link with queue := s.link.queue ++ [mkFrame .halfAxle p.station (halfPayload r w)] }

/-- The OFFERED entry of a half axle. -/
def offeredEntry (w : OwnWheel) (p : Peer) (r : Byte) (number : BitVec 16) (s : State) : MergeEntry :=
  { slot := freeSlot s.former.merges, state := .offered, partner := p.station, ref := some r, deadline := s.tick + 3200,
    vehicle := number, own := w }

theorem not_mergeCap_le {l : List MergeEntry} (h : l.length < 8) : ¬mergeCap ≤ l.length := Nat.not_le.2 h

theorem cederHalf_placed {w : OwnWheel} {s : State} {p : Peer} {a : State} {number : BitVec 16}
    (h : cederNeighbour s = some p) (hmerges : s.former.merges.length < 8) (hroom : s.link.queue.length < 16)
    (ha : handAxle (pendingAxle w (some (nextRef s.former)) (freeSlot s.former.merges))
      (halfOffered w p (nextRef s.former) s) = (a, some number)) :
    cederHalf w s = addMerge (offeredEntry w p (nextRef s.former) number s) a := by
  have hoffer : offerUrgent (mkFrame .halfAxle p.station (halfPayload (nextRef s.former) w))
      (advanceRef (nextRef s.former) s) = (halfOffered w p (nextRef s.former) s, true) :=
    offerUrgent_room (s := advanceRef (nextRef s.former) s) hroom
  simp only [cederHalf, h, if_neg (not_mergeCap_le hmerges), hoffer, if_true, ha]
  rfl

theorem cederHalf_lost {w : OwnWheel} {s : State} {p : Peer} (h : cederNeighbour s = some p)
    (hmerges : s.former.merges.length < 8) (hroom : s.link.queue.length < 16)
    (ha : (handAxle (pendingAxle w (some (nextRef s.former)) (freeSlot s.former.merges))
      (halfOffered w p (nextRef s.former) s)).2 = none) :
    cederHalf w s = (handAxle (pendingAxle w (some (nextRef s.former)) (freeSlot s.former.merges))
      (halfOffered w p (nextRef s.former) s)).1 := by
  have hoffer : offerUrgent (mkFrame .halfAxle p.station (halfPayload (nextRef s.former) w))
      (advanceRef (nextRef s.former) s) = (halfOffered w p (nextRef s.former) s, true) :=
    offerUrgent_room (s := advanceRef (nextRef s.former) s) hroom
  simp only [cederHalf, h, if_neg (not_mergeCap_le hmerges), hoffer, if_true, ha]

theorem cederHalf_refused {w : OwnWheel} {s : State} {p : Peer} (h : cederNeighbour s = some p)
    (hmerges : s.former.merges.length < 8) (hfull : s.link.queue.length = 16)
    (hclass : ∀ x ∈ s.link.queue, frameClass x.kind = 2 → x.sending = true) :
    cederHalf w s = mergeFull (handAxle (partAxle w (some (nextRef s.former))) (advanceRef (nextRef s.former) s)).1 := by
  have hoffer : offerUrgent (mkFrame .halfAxle p.station (halfPayload (nextRef s.former) w))
      (advanceRef (nextRef s.former) s) = (advanceRef (nextRef s.former) s, false) :=
    offerUrgent_refuses (s := advanceRef (nextRef s.former) s) hfull (not_classTwoWaiting hclass) (by simp [mkFrame, frameClass])
  simp only [cederHalf, h, if_neg (not_mergeCap_le hmerges), hoffer]
  rfl

/-! ### The owner side (R75, R76) -/

theorem ownerHalf_none {w : OwnWheel} {s : State} (h : ownerNeighbour s = none) :
    ownerHalf w s = (handAxle (partAxle w none) s).1 := by rw [ownerHalf, h]; rfl

theorem ownerHalf_full {w : OwnWheel} {s : State} {p : Peer} (h : ownerNeighbour s = some p)
    (hfull : s.former.merges.length = 8) : ownerHalf w s = mergeFull (handAxle (partAxle w none) s).1 := by
  have hcap : mergeCap ≤ s.former.merges.length := by rw [hfull]; exact le_rfl
  simp only [ownerHalf, h, if_pos hcap]
  rfl

/-- The WAITING entry of a half axle. -/
def waitingEntry (w : OwnWheel) (p : Peer) (number : BitVec 16) (s : State) : MergeEntry :=
  { slot := freeSlot s.former.merges, state := .waiting, partner := p.station, ref := none, deadline := s.tick + 1200,
    vehicle := number, own := w }

theorem ownerHalf_lost {w : OwnWheel} {s : State} {p : Peer} (h : ownerNeighbour s = some p)
    (hmerges : s.former.merges.length < 8)
    (ha : (handAxle (pendingAxle w none (freeSlot s.former.merges)) s).2 = none) :
    ownerHalf w s = (handAxle (pendingAxle w none (freeSlot s.former.merges)) s).1 := by
  simp only [ownerHalf, h, if_neg (not_mergeCap_le hmerges), ha]

/-- The station once the PENDING axle of a half axle has opened a vehicle and its WAITING entry stands. -/
def ownerPlaced (w : OwnWheel) (p : Peer) (s : State) : State :=
  addMerge (waitingEntry w p s.veh.counter s) (handAxle (pendingAxle w none (freeSlot s.former.merges)) s).1

/-- Once its entry stands, the half axle is matched with the first peer half that fits, if there is one. -/
theorem ownerHalf_placed {w : OwnWheel} {s : State} {p : Peer} (h : ownerNeighbour s = some p)
    (hmerges : s.former.merges.length < 8) (hopen : openEntry s = none) (hroom : s.veh.entries.length < 8) :
    ownerHalf w s =
      ((ownerPlaced w p s).former.halves.find?
        (halfMatches (ownerPlaced w p s) (waitingEntry w p s.veh.counter s))).elim (ownerPlaced w p s)
        fun x => takeMerge (waitingEntry w p s.veh.counter s) x (ownerPlaced w p s) := by
  have ha := handAxle_opens hopen hroom (pendingAxle w none (freeSlot s.former.merges))
  have hplaced : ownerPlaced w p s = addMerge (waitingEntry w p s.veh.counter s) ((bump .axlesFormed s).withVeh { s.veh with
      entries := s.veh.entries ++ [newVehicle s (pendingAxle w none (freeSlot s.former.merges)) none]
      counter := s.veh.counter + 1
      lastOpened := some s.veh.counter
      runCount := 0 }) := by rw [ownerPlaced, ha]
  simp only [ownerHalf, h, if_neg (not_mergeCap_le hmerges), ha]
  generalize hfind : (ownerPlaced w p s).former.halves.find?
    (halfMatches (ownerPlaced w p s) (waitingEntry w p s.veh.counter s)) = found
  rw [hplaced] at hfind ⊢
  split
  · next x hx =>
    obtain rfl : found = some x := hfind.symm.trans hx
    rfl
  · next hx =>
    obtain rfl : found = none := hfind.symm.trans hx
    rfl

/-- The vehicle that the PENDING axle of a half axle opens. -/
def openedBy (w : OwnWheel) (ref : Option Byte) (s : State) : Vehicle :=
  newVehicle s (pendingAxle w ref (freeSlot s.former.merges)) none

theorem ownerPlaced_spec {w : OwnWheel} {p : Peer} {s : State} (hopen : openEntry s = none)
    (hroom : s.veh.entries.length < 8) :
    (ownerPlaced w p s).former = { s.former with merges := s.former.merges ++ [waitingEntry w p s.veh.counter s] } ∧
      (ownerPlaced w p s).veh.entries = s.veh.entries ++ [openedBy w none s] ∧ (ownerPlaced w p s).link = s.link ∧
      (ownerPlaced w p s).counters = s.counters.bump .axlesFormed ∧ (ownerPlaced w p s).raised = s.raised ∧
      (ownerPlaced w p s).peers = s.peers ∧ (ownerPlaced w p s).tick = s.tick := by
  rw [ownerPlaced, handAxle_opens hopen hroom]
  exact ⟨rfl, rfl, rfl, rfl, rfl, rfl, rfl⟩

/-- The entry of an owner fits a half of its partner near its time and at its speed. -/
theorem halfMatches_waiting {w : OwnWheel} {p : Peer} {s z : State} {number : BitVec 16} (h : PeerHalf)
    (haligned : isAligned s p.station = true) (hz : z.peers = s.peers) :
    halfMatches z (waitingEntry w p number s) h = true ↔
      h.sender = p.station ∧ within h.centre w.time 160 = true ∧ speedsAgree h.speed w.speed = true := by
  have hpeers : isAligned z p.station = true := by rw [isAligned, hz]; exact haligned
  have hpartner : (waitingEntry w p number s).partner = p.station := rfl
  have hown : (waitingEntry w p number s).own = w := rfl
  simp only [halfMatches, hpartner, hown, Bool.and_eq_true, decide_eq_true_iff]
  constructor
  · rintro ⟨⟨⟨hs, -⟩, hw⟩, ha⟩
    exact ⟨hs, hw, ha⟩
  · rintro ⟨hs, hw, ha⟩
    exact ⟨⟨⟨hs, hs ▸ hpeers⟩, hw⟩, ha⟩

theorem ownerHalf_waits {w : OwnWheel} {s : State} {p : Peer} (h : ownerNeighbour s = some p)
    (hmerges : s.former.merges.length < 8) (hopen : openEntry s = none) (hroom : s.veh.entries.length < 8)
    (hnone : ∀ x ∈ s.former.halves, x.sender = p.station → within x.centre w.time 160 = true →
      speedsAgree x.speed w.speed = false) : ownerHalf w s = ownerPlaced w p s := by
  obtain ⟨hformer, -, -, -, -, hpeers, -⟩ := ownerPlaced_spec (w := w) (p := p) hopen hroom
  have hfind : (ownerPlaced w p s).former.halves.find?
      (halfMatches (ownerPlaced w p s) (waitingEntry w p s.veh.counter s)) = none := by
    rw [List.find?_eq_none, hformer]
    intro x hx hm
    obtain ⟨hs, hw, ha⟩ := (halfMatches_waiting x (isAligned_of_ownerNeighbour h) hpeers).1 hm
    rw [hnone x hx hs hw] at ha
    exact nomatch ha
  rw [ownerHalf_placed h hmerges hopen hroom, hfind]
  rfl

theorem ownerHalf_matches {w : OwnWheel} {s : State} {p : Peer} {before behind : List PeerHalf} {x : PeerHalf}
    (h : ownerNeighbour s = some p) (hmerges : s.former.merges.length < 8) (hopen : openEntry s = none)
    (hroom : s.veh.entries.length < 8) (hl : s.former.halves = before ++ x :: behind) (hs : x.sender = p.station)
    (hw : within x.centre w.time 160 = true) (ha : speedsAgree x.speed w.speed = true)
    (hbefore : ∀ y ∈ before, y.sender = p.station → within y.centre w.time 160 = true →
      speedsAgree y.speed w.speed = false) :
    ownerHalf w s = takeMerge (waitingEntry w p s.veh.counter s) x (ownerPlaced w p s) := by
  obtain ⟨hformer, -, -, -, -, hpeers, -⟩ := ownerPlaced_spec (w := w) (p := p) hopen hroom
  have haligned := isAligned_of_ownerNeighbour h
  have hfind : (ownerPlaced w p s).former.halves.find?
      (halfMatches (ownerPlaced w p s) (waitingEntry w p s.veh.counter s)) = some x := by
    rw [hformer]
    show s.former.halves.find? _ = some x
    rw [hl]
    refine find_at _ _ _ _ (fun y hy => ?_) ((halfMatches_waiting x haligned hpeers).2 ⟨hs, hw, ha⟩)
    rw [Bool.eq_false_iff]
    intro hm
    obtain ⟨hys, hyw, hya⟩ := (halfMatches_waiting y haligned hpeers).1 hm
    rw [hbefore y hy hys hyw] at hya
    exact nomatch hya
  rw [ownerHalf_placed h hmerges hopen hroom, hfind]
  rfl

/-! ### The match at once (R76) -/

theorem pendingAxle_right {w : WeighedHit} (h : w.hit.path = .right) (ref : Option Byte) (slot : Nat) :
    pendingAxle (ownWheel w) ref slot =
      { time := w.hit.centre, speed := w.hit.speed, left := none, right := some w.data, kind := .pending, unconfirmed := false,
        ref := ref, link := some slot } := by
  rw [pendingAxle, partAxle_right h]

theorem pendingAxle_left {w : WeighedHit} (h : w.hit.path = .left) (ref : Option Byte) (slot : Nat) :
    pendingAxle (ownWheel w) ref slot =
      { time := w.hit.centre, speed := w.hit.speed, left := some w.data, right := none, kind := .pending, unconfirmed := false,
        ref := ref, link := some slot } := by
  rw [pendingAxle, partAxle_left h]

/-- The PENDING axle given up is the PARTIAL axle of its wheel. -/
theorem changedAxles_pending (e : MergeEntry) (w : OwnWheel) (ref : Option Byte) :
    changedAxles e (fun a => { a with kind := .part, link := none }) [pendingAxle w ref e.slot] = [partAxle w ref] := by
  simp [changedAxles, pendingAxle, partAxle]

theorem openedBy_uncalibrated {w : WeighedHit} (h : w.hit.path = .right) (ref : Option Byte) (s : State) :
    (openedBy (ownWheel w) ref s).uncalibrated = w.data.uncalibrated := by
  rw [openedBy, newVehicle, pendingAxle_right h]
  simp [axleUncalibrated, axleHas, wheelsOf]

/-- A half axle that is offered (R70, R71). -/
theorem takeLone_offers {w : WeighedHit} {s : State} {p : Peer} (hpath : w.hit.path = .left)
    (hstrap : s.straps.leftNeighbour = true) (hp : cederNeighbour s = some p) (hmerges : s.former.merges.length < 8)
    (hq : s.link.queue.length < 16) (hopen : openEntry s = none) (hroom : s.veh.entries.length < 8) :
    takeLone w s = addMerge (offeredEntry (ownWheel w) p (nextRef s.former) s.veh.counter s)
      ((bump .axlesFormed (halfOffered (ownWheel w) p (nextRef s.former) s)).withVeh { s.veh with
        entries := s.veh.entries ++ [openedBy (ownWheel w) (some (nextRef s.former)) s]
        counter := s.veh.counter + 1
        lastOpened := some s.veh.counter
        runCount := 0 }) := by
  rw [takeLone_left hpath hstrap]
  exact cederHalf_placed hp hmerges hq
    (handAxle_opens (s := halfOffered (ownWheel w) p (nextRef s.former) s) hopen hroom _)

/-- The link after an axle is lost keeps the frames it holds but for what they will clear. -/
theorem lost_queue_map {α : Type} (g : TxFrame → α) (hg : ∀ f l, g { f with clears := l } = g f) {s : State}
    (hopen : openEntry s = none) (hfull : s.veh.entries.length = 8) (a : Axle) :
    (handAxle a s).1.link.queue.map g = s.link.queue.map g := by
  rw [handAxle_lost hopen hfull]
  exact raise_queue_map g hg .queueLoss (bump .vehicleLoss (endRun (bump .axlesFormed s)))

theorem handAxle_lost_spec {s : State} (hopen : openEntry s = none) (hfull : s.veh.entries.length = 8) (a : Axle) :
    (handAxle a s).2 = none ∧ (handAxle a s).1.former = s.former ∧ (handAxle a s).1.veh = { s.veh with runCount := 0 } ∧
      (handAxle a s).1.counters = (s.counters.bump .axlesFormed).bump .vehicleLoss ∧
      (handAxle a s).1.raised = { s.raised with queueLoss := true } := by
  rw [handAxle_lost hopen hfull]
  exact ⟨rfl, rfl, rfl, rfl, rfl⟩

/-- A half axle that is offered and then lost for want of a vehicle entry. -/
theorem offered_lost {w : WeighedHit} {s : State} {p : Peer} (hpath : w.hit.path = .left)
    (hstrap : s.straps.leftNeighbour = true) (hp : cederNeighbour s = some p) (hmerges : s.former.merges.length < 8)
    (hq : s.link.queue.length < 16) (hopen : openEntry s = none) (hfull : s.veh.entries.length = 8) :
    (takeLone w s).former = (halfOffered (ownWheel w) p (nextRef s.former) s).former ∧
      (takeLone w s).veh = { s.veh with runCount := 0 } ∧
      (takeLone w s).counters = (s.counters.bump .axlesFormed).bump .vehicleLoss ∧
      (takeLone w s).raised = { s.raised with queueLoss := true } ∧
      (takeLone w s).link.queue.map TxFrame.kind =
        (halfOffered (ownWheel w) p (nextRef s.former) s).link.queue.map TxFrame.kind ∧
      (takeLone w s).link.queue.map TxFrame.dest =
        (halfOffered (ownWheel w) p (nextRef s.former) s).link.queue.map TxFrame.dest ∧
      (takeLone w s).link.queue.map TxFrame.payload =
        (halfOffered (ownWheel w) p (nextRef s.former) s).link.queue.map TxFrame.payload := by
  have hopen' : openEntry (halfOffered (ownWheel w) p (nextRef s.former) s) = none := hopen
  have hfull' : (halfOffered (ownWheel w) p (nextRef s.former) s).veh.entries.length = 8 := hfull
  obtain ⟨hlost, hformer, hveh, hcounters, hraised⟩ := handAxle_lost_spec hopen' hfull'
    (pendingAxle (ownWheel w) (some (nextRef s.former)) (freeSlot s.former.merges))
  rw [takeLone_left hpath hstrap, cederHalf_lost hp hmerges hq hlost]
  exact ⟨hformer, hveh, hcounters, hraised, lost_queue_map _ (fun _ _ => rfl) hopen' hfull' _,
    lost_queue_map _ (fun _ _ => rfl) hopen' hfull' _, lost_queue_map _ (fun _ _ => rfl) hopen' hfull' _⟩

theorem matched_at_once {w : WeighedHit} {s : State} {p : Peer} {h : PeerHalf} (hpath : w.hit.path = .right)
    (hmerges : s.former.merges.length < 8) (hopen : openEntry s = none) (hroom : s.veh.entries.length < 8)
    (hnumbers : ∀ v ∈ s.veh.entries, v.number ≠ s.veh.counter) (hq : s.link.queue.length < 16) :
    let t := takeMerge (waitingEntry (ownWheel w) p s.veh.counter s) h (ownerPlaced (ownWheel w) p s)
    let e := { waitingEntry (ownWheel w) p s.veh.counter s with
      state := .taken, ref := some h.ref, deadline := s.tick + 2400 }
    let a := mergedAxle (ownWheel w) h (pendingAxle (ownWheel w) none (freeSlot s.former.merges))
    t.former = { s.former with
        merges := s.former.merges ++ [e]
        halves := s.former.halves.filter fun y => !halfIs h.sender h.ref y } ∧
      t.veh.entries = s.veh.entries ++ [{ openedBy (ownWheel w) none s with
        axles := [a], uncalibrated := w.data.uncalibrated || h.data.uncalibrated }] ∧
      t.link.queue = s.link.queue ++ [mkFrame .mergeTake p.station [h.ref]] ∧
      t.counters = (s.counters.bump .axlesFormed).bump .mergesTaken := by
  obtain ⟨hformer, hentries, hlink, hcounters, -, -, htick⟩ := ownerPlaced_spec (w := ownWheel w) (p := p) hopen hroom
  obtain ⟨hf, hv, hl, hc⟩ := matched_spec (z := ownerPlaced (ownWheel w) p s) (h := h)
    (e := waitingEntry (ownWheel w) p s.veh.counter s) (mb := s.former.merges) (ma := []) (vb := s.veh.entries) (va := [])
    (v := openedBy (ownWheel w) none s) (older := []) (newer := [])
    (a := pendingAxle (ownWheel w) none (freeSlot s.former.merges)) (by rw [hformer])
    (by rw [List.append_nil]; exact freeSlot_free hmerges) (by rw [hlink]; exact hq) hentries rfl
    (by rw [List.append_nil]; exact hnumbers) rfl rfl
    (by simp)
  refine ⟨?_, ?_, ?_, ?_⟩
  · rw [hf, hformer, htick]
  · rw [hv, openedBy_uncalibrated hpath]
    rfl
  · rw [hl, hlink]
    rfl
  · rw [hc, hcounters]

theorem refused_at_once {w : WeighedHit} {s : State} {p : Peer} {h : PeerHalf}
    (hmerges : s.former.merges.length < 8) (hopen : openEntry s = none) (hroom : s.veh.entries.length < 8)
    (hnumbers : ∀ v ∈ s.veh.entries, v.number ≠ s.veh.counter) (hfull : s.link.queue.length = 16)
    (hclass : ∀ x ∈ s.link.queue, frameClass x.kind = 2 → x.sending = true)
    (hvehicle : ∀ x ∈ s.link.queue, x.kind = .vehicle → x.sending = true) :
    let t := takeMerge (waitingEntry (ownWheel w) p s.veh.counter s) h (ownerPlaced (ownWheel w) p s)
    t.former = s.former ∧
      t.veh.entries = s.veh.entries ++ [{ openedBy (ownWheel w) none s with axles := [partAxle (ownWheel w) none] }] ∧
      t.counters = ((s.counters.bump .axlesFormed).bump .txDrop).bump .mergeFull ∧
      t.raised = { s.raised with queueLoss := true } ∧
      t.link.queue.map TxFrame.payload = s.link.queue.map TxFrame.payload := by
  obtain ⟨hformer, hentries, hlink, hcounters, hraised, -, -⟩ := ownerPlaced_spec (w := ownWheel w) (p := p) hopen hroom
  have hstays : NoneLeavesClosing (waitingEntry (ownWheel w) p s.veh.counter s) (ownerPlaced (ownWheel w) p s) := by
    intro v hv hnum hstate
    rw [hentries, List.mem_append, List.mem_singleton] at hv
    rcases hv with hv | rfl
    · exact absurd hnum (hnumbers v hv)
    · exact nomatch hstate
  obtain ⟨hf, hv, hc, hr, hpayload, -⟩ := refused_spec (z := ownerPlaced (ownWheel w) p s) (h := h)
    (e := waitingEntry (ownWheel w) p s.veh.counter s) (mb := s.former.merges) (ma := []) (by rw [hformer])
    (by rw [List.append_nil]; exact freeSlot_free hmerges) (by rw [hlink]; exact hfull) (by rw [hlink]; exact hclass)
    (by rw [hlink]; exact hvehicle) hstays
  refine ⟨?_, ?_, ?_, ?_, ?_⟩
  · rw [hf, hformer, List.append_nil]
  · rw [hv, hentries, withLinkedAxles_at (v := openedBy (ownWheel w) none s) (behind := []) rfl
      (by rw [List.append_nil]; exact hnumbers)]
    exact congrArg (fun l => s.veh.entries ++ [{ openedBy (ownWheel w) none s with axles := l }])
      (changedAxles_pending (waitingEntry (ownWheel w) p s.veh.counter s) (ownWheel w) none)
  · rw [hc, hcounters]
  · rw [hr, hraised]
  · rw [hpayload, hlink]

/-- Settles O34, by the edge, the neighbour, and the free places of merge table, transmit queue and vehicle table. -/
theorem halfAxlesStartTheirMerge : Obligations.HalfAxlesStartTheirMerge := by
  unfold Obligations.HalfAxlesStartTheirMerge
  refine ⟨fun w s p hpath hstrap hp hmerges hq hopen hroom => ?_, fun w s hpath hstrap hp => ?_,
    fun w s p hpath hstrap hp hfull => ?_, fun w s p hpath hstrap hp hmerges hopen hroom hnone => ?_,
    fun w s hpath hstrap hp => ?_, fun w s p hpath hstrap hp hfull => ?_,
    fun w s p hpath hstrap hp hmerges hfull hclass => ?_, fun w s p hpath hstrap hp hmerges hq => ?_,
    fun w s p hpath hstrap hp hmerges => ?_,
    fun w s p before behind h hpath hstrap hp hmerges hopen hroom hnumbers hl hs hw ha hbefore => ?_,
    fun w ref => ⟨fun hpath => partAxle_left hpath ref, fun hpath => partAxle_right hpath ref⟩⟩
  · rw [takeLone_offers hpath hstrap hp hmerges hq hopen hroom]
    refine ⟨_, nextRef s.former, openedBy (ownWheel w) (some (nextRef s.former)) s,
      pendingAxle (ownWheel w) (some (nextRef s.former)) (freeSlot s.former.merges), rfl, nextReference_nextRef hmerges, rfl,
      rfl, rfl, rfl, rfl, rfl, rfl, rfl, rfl, rfl, rfl, rfl, rfl, ?_, ?_, rfl, rfl⟩
    · rw [pendingAxle_left hpath]
    · rw [pendingAxle_left hpath]
  · rw [takeLone_left hpath hstrap, cederHalf_none hp]
  · rw [takeLone_left hpath hstrap, cederHalf_full hp hfull]
    rfl
  · obtain ⟨hformer, hentries, hlink, hcounters, -, -, -⟩ := ownerPlaced_spec (w := ownWheel w) (p := p) hopen hroom
    rw [takeLone_right hpath hstrap, ownerHalf_waits (w := ownWheel w) hp hmerges hopen hroom hnone]
    refine ⟨waitingEntry (ownWheel w) p s.veh.counter s, openedBy (ownWheel w) none s,
      pendingAxle (ownWheel w) none (freeSlot s.former.merges), by rw [hformer], rfl, rfl, rfl, rfl, rfl, hentries, rfl, rfl,
      rfl, rfl, rfl, rfl, ?_, ?_, hlink, hcounters⟩
    · rw [pendingAxle_right hpath]
    · rw [pendingAxle_right hpath]
  · rw [takeLone_right hpath hstrap, ownerHalf_none hp]
  · rw [takeLone_right hpath hstrap, ownerHalf_full hp hfull]
    rfl
  · refine ⟨nextRef s.former, nextReference_nextRef hmerges, ?_⟩
    rw [takeLone_left hpath hstrap, cederHalf_refused hp hmerges hfull hclass]
    rfl
  · refine ⟨nextRef s.former, freeSlot s.former.merges, halfOffered (ownWheel w) p (nextRef s.former) s,
      nextReference_nextRef hmerges, rfl, fun hlost => ?_, fun hopen hfull => ?_⟩
    · rw [takeLone_left hpath hstrap, cederHalf_lost hp hmerges hq hlost]
    · exact offered_lost hpath hstrap hp hmerges hq hopen hfull
  · refine ⟨⟨freeSlot s.former.merges, fun hlost => ?_⟩, fun hopen hfull => ?_⟩
    · rw [takeLone_right hpath hstrap, ownerHalf_lost hp hmerges hlost]
    · have hlost := handAxle_lost hopen hfull (pendingAxle (ownWheel w) none (freeSlot s.former.merges))
      rw [takeLone_right hpath hstrap, ownerHalf_lost hp hmerges (by rw [hlost]), hlost]
      rfl
  · have hmatch := ownerHalf_matches (w := ownWheel w) hp hmerges hopen hroom hl hs hw ha hbefore
    rw [takeLone_right hpath hstrap, hmatch]
    refine ⟨fun hq => ?_, fun hfull hclass hvehicle => ?_⟩
    · obtain ⟨hformer, hentries, hqueue, hcounters⟩ := matched_at_once (p := p) (h := h) hpath hmerges hopen hroom hnumbers hq
      exact ⟨_, _, _, hformer, freeSlot_free hmerges, rfl, rfl, rfl, rfl, rfl, rfl, hentries, rfl, rfl, rfl, rfl, rfl, rfl, rfl,
        rfl, rfl, rfl, rfl, roundHalfUp_two _, hqueue, hcounters⟩
    · obtain ⟨hformer, hentries, hcounters, hraised, hpayload⟩ :=
        refused_at_once (w := w) (p := p) (h := h) hmerges hopen hroom hnumbers hfull hclass hvehicle
      exact ⟨_, hformer, hentries, rfl, rfl, rfl, hcounters, hraised, hpayload⟩

end Sys2Proof.Machine
